-- ==== Sys2Proof/Word.lean ====
section
/-! DEFINITION. Word types of the machine: the 8-bit data byte and the 16-bit address (R21, R22, R100).
All arithmetic on them wraps (R8), which is what `BitVec` addition and subtraction do. -/

namespace Sys2Proof

/-- One byte: the width of A, X, Y, S, the data bus and every device register (R21, R100). -/
abbrev Byte := BitVec 8

/-- One address: the width of PC and of the address bus (R22, R100). -/
abbrev Word := BitVec 16

end Sys2Proof
end

