-- ==== Sys2Proof/Machine/Bits.lean ====
section
/-! DEFINITION. Bit-field, extension and byte-order helpers (R7, R9, R106). -/

namespace Sys2Proof.Machine

/-- `zext_16` (R9). -/
def zext16 (b : Byte) : Word := b.setWidth 16

/-- `sext_16` (R9). -/
def sext16 (b : Byte) : Word := b.signExtend 16

/-- `{hi, lo}` (R7): the 16-bit quantity whose low byte is `lo` (R106). -/
def mkWord (hi lo : Byte) : Word := hi ++ lo

/-- `w[7:0]`. -/
def loByte (w : Word) : Byte := w.setWidth 8

/-- `w[15:8]`. -/
def hiByte (w : Word) : Byte := w.extractLsb' 8 8

/-- `v` with bit `i` set to `b`. -/
def setBit (n : Nat) (v : BitVec n) (i : Nat) (b : Bool) : BitVec n :=
  if b then v ||| (1#n <<< i) else v &&& ~~~(1#n <<< i)

/-- Bit `i` of a byte (R7: bit 0 is the least significant). -/
def bit (v : Byte) (i : Nat) : Bool := v.getLsbD i

/-- The byte whose bits 7 down to 0 are the arguments. -/
def byteOfBits (b7 b6 b5 b4 b3 b2 b1 b0 : Bool) : Byte :=
  BitVec.ofBool b7 ++ BitVec.ofBool b6 ++ BitVec.ofBool b5 ++ BitVec.ofBool b4 ++
    BitVec.ofBool b3 ++ BitVec.ofBool b2 ++ BitVec.ofBool b1 ++ BitVec.ofBool b0

end Sys2Proof.Machine
end

