-- ==== Sys2Proof/Config.lean ====
section
/-! DEFINITION. The implementation parameters of 00_scope.md section 5 (R6) as fields of one plain structure, which
`State` carries so that every statement over all states is a statement over all parameter values; and the free values, constants
without a body that nothing in Lean can evaluate. -/

namespace Sys2Proof

/-- `CPU_VARIANT`: the NMOS 6502 with its documented opcodes, the one variant the spec describes (D1, D2; log entry 17). -/
inductive CpuVariant where
  | nmos6502
deriving DecidableEq, Repr

/-- `XLEN`: the width of A, X, Y, S and the data bus (D3; log entry 17). -/
inductive XLen where
  | bits8
deriving DecidableEq, Repr

/-- The width in bits. -/
def XLen.bits : XLen → Nat
  | .bits8 => 8

/-- `ALEN`: the width of PC and the address bus (D3; log entry 17). -/
inductive ALen where
  | bits16
deriving DecidableEq, Repr

/-- The width in bits. -/
def ALen.bits : ALen → Nat
  | .bits16 => 16

/-- The two VIA instances by their identity, which Reset preserves (R30, R40). -/
inductive ViaId where
  | system
  | user
deriving DecidableEq, Repr

/-- `VIA_COUNT`: how many VIAs there are (R30; log entry 17). -/
inductive ViaCount where
  | two
deriving DecidableEq, Repr

/-- The VIAs there are, in the order in which they take their edges (R114). -/
def ViaCount.ids : ViaCount → List ViaId
  | .two => [.system, .user]

/-- The agents' steps of one system cycle besides the CPU's bus access (R114). -/
inductive AgentPhase where
  | viaLeading
  | viaTrailing
  | fdcUpdates
deriving DecidableEq, Repr

/-- The order of the agents' steps inside one system cycle: those before the CPU's bus access and those after it. The
default is the order R114 fixes (D4; log entry 17). -/
structure AgentOrder where
  before : List AgentPhase := [.viaLeading]
  after : List AgentPhase := [.viaTrailing, .fdcUpdates]
deriving DecidableEq, Repr

/-- `FDC_VARIANT`: which step-rate table of R168 the controller uses. -/
inductive FdcVariant where
  | wd1770
  | wd1772
deriving DecidableEq, Repr

/-- `FDC_IRQ_WIRING` (R611): which CPU line the FDC's `intrq` and `drq` pins are ORed onto. -/
inductive FdcIrqWiring where
  | nmi
  | irq
  | none
deriving DecidableEq, Repr

/-- The implementation parameters (00_scope.md section 5). The step never changes them. The default of each field is
the value the table gives; the platform's own fields (the bases, the window sizes, the ROM and unmapped ranges, the
FDC ratio), which the spec leaves OPEN, default to the BBC B values it calls informative: DESIGN CHOICE, log
entries 9 and 10. -/
structure Config where
  /-- `CPU_VARIANT` (D1, D2). -/
  cpuVariant : CpuVariant := .nmos6502
  /-- `XLEN` (D3). -/
  xlen : XLen := .bits8
  /-- `ALEN` (D3). -/
  alen : ALen := .bits16
  /-- `VEC_NMI` (R111, D8). -/
  vecNmi : Word := 0xFFFA
  /-- `VEC_RESET` (R111, D8). -/
  vecReset : Word := 0xFFFC
  /-- `VEC_IRQ`, shared by IRQ and BRK (R111, D8, R601). -/
  vecIrq : Word := 0xFFFE
  /-- `STACK_PAGE` (R10, R111, D8). -/
  stackPage : Word := 0x0100
  /-- `VIA_COUNT` (R30). -/
  viaCount : ViaCount := .two
  /-- `VIA_REGF_HANDSHAKE`: register $F behaves as register $1 (R413, D13). -/
  viaRegFHandshake : Bool := true
  /-- `VIA_PULSE_LEN`: trailing edges of an output pulse (R407, D15). -/
  viaPulseLen : Nat := 2
  /-- `FDC_VARIANT` (R168). -/
  fdcVariant : FdcVariant := .wd1770
  /-- `FDC_TICK_US`: the microseconds by which one `Update()` advances FDC time (R481, D18). -/
  fdcTickUs : Nat := 1
  /-- `FDC_INDEX_PERIOD_US` (R482). -/
  fdcIndexPeriodUs : Nat := 200000
  /-- `FDC_SPINUP_PULSES` (R495). -/
  fdcSpinupPulses : Nat := 6
  /-- `FDC_RNF_PULSES` (R512). -/
  fdcRnfPulses : Nat := 6
  /-- `FDC_SETTLE_US` (R497, R512). -/
  fdcSettleUs : Nat := 30000
  /-- `FDC_BYTE_US` (R510, R511). -/
  fdcByteUs : Nat := 64
  /-- `FDC_RESTORE_LIMIT` (R500). -/
  fdcRestoreLimit : Nat := 255
  /-- `FDC_SPINDOWN_PULSES` (R482, D39). -/
  fdcSpindownPulses : Nat := 10
  /-- `FDC_INDEX_PULSE_US` (R482, D40). -/
  fdcIndexPulseUs : Nat := 4000
  /-- `FDC_UPDATES_PER_CYCLE` as a ratio, numerator (R481: OPEN; DESIGN CHOICE 1/2, log entry 10). -/
  fdcUpdatesNum : Nat := 1
  /-- `FDC_UPDATES_PER_CYCLE` as a ratio, denominator. -/
  fdcUpdatesDen : Nat := 2
  /-- `FDC_IRQ_WIRING` (R611, D8). -/
  fdcIrqWiring : FdcIrqWiring := .nmi
  /-- `TUBE_FIFO1_P2H_DEPTH` (R62, D28). -/
  tubeDepth : Nat := 24
  /-- `TUBE_DUMMY_HOST_READ` (R565). -/
  tubeDummyHost : Byte := 0xE4
  /-- `TUBE_DUMMY_PARASITE_READ` (R565). -/
  tubeDummyParasite : Byte := 0x96
  /-- `TUBE_NMI_ON_P2H_EMPTY` (R580, D29). -/
  tubeNmiOnP2hEmpty : Bool := true
  /-- `SYSVIA_BASE` (R111, D8: OPEN). -/
  sysViaBase : Word := 0xFE40
  /-- `USRVIA_BASE`. -/
  usrViaBase : Word := 0xFE60
  /-- `FDC_BASE`. -/
  fdcBase : Word := 0xFE84
  /-- `TUBE_BASE`. -/
  tubeBase : Word := 0xFEE0
  /-- Bytes of address space each VIA answers (platform decode, log entry 9). -/
  viaWindow : Nat := 16
  /-- Bytes of address space the FDC answers. -/
  fdcWindow : Nat := 4
  /-- Bytes of address space the Tube's host side answers. -/
  tubeWindow : Nat := 8
  /-- Inclusive address ranges that ignore writes (R102: ROM); none by default (log entry 9). -/
  rom : List (Nat × Nat) := []
  /-- Inclusive address ranges no agent claims (R101, R102, U11); none by default (log entry 9). -/
  unmapped : List (Nat × Nat) := []
  /-- The order of the agents' steps inside one system cycle (R114, D4). -/
  agentOrder : AgentOrder := {}
deriving DecidableEq, Repr

/-- The parameters at their table values. -/
def Config.default : Config := {}

/-- FREE VALUE: the byte a read of an unmapped address puts on the bus (R101, U11: `draw(8)`), for the n-th such read at
the given address. Log entry 11. -/
opaque Config.unmappedByte : Nat → Word → Byte

/-- FREE VALUE: the Record Not Found bit of a Restore abandoned with V = 0 (R500, U4: `draw(1)`), for the n-th draw of the
controller. Log entry 12. -/
opaque Config.restoreRnf : Nat → Bool

/-- FREE VALUE: a CRC byte that Read Address delivers (R520, U5: `draw(8)`), for the n-th draw of the controller.
Log entry 13. -/
opaque Config.crcByte : Nat → Byte

end Sys2Proof
end

