-- ==== Sys2Proof/Machine/State.lean ====
section
/-! DEFINITION. The whole state of the machine as plain data (10_state.md): the CPU sequencer, the two VIAs, the FDC with
its drive handler, the Tube, memory, the environment's inputs; the reset state; and the reasons a step can stop. -/

namespace Sys2Proof.Machine

/-! ### CPU sequencer (R20 to R28) -/

/-- The six stored flags of `P` (R23). Bits 5 and 4 of the byte image are not stored. -/
structure Flags where
  n : Bool := false
  v : Bool := false
  d : Bool := false
  i : Bool := false
  z : Bool := false
  c : Bool := false
deriving DecidableEq, Repr

/-- What the cycles of the sequencer belong to (R26). -/
inductive SeqKind where
  | instr
  | irqSeq
  | nmiSeq
  | resetSeq
deriving DecidableEq, Repr

/-- One bus cycle as the environment sees it (R25, R26): the triple `(abus, dbus, read)`. -/
structure BusCycle where
  addr : Word
  data : Byte
  read : Bool
deriving DecidableEq, Repr

/-- The CPU's state (R21 to R27). -/
structure Cpu where
  /-- Accumulator (R21). -/
  a : Byte := 0
  /-- Index X (R21). -/
  x : Byte := 0
  /-- Index Y (R21). -/
  y : Byte := 0
  /-- Stack pointer; the stack address is `$0100 + S` (R21). -/
  s : Byte := 0
  /-- Program counter (R22). -/
  pc : Word := 0
  /-- Flags register (R23). -/
  p : Flags := {}
  /-- Current-opcode latch (R24). -/
  ir : Byte := 0
  /-- Address bus latch (R25). -/
  abus : Word := 0
  /-- Data bus latch (R25). -/
  dbus : Byte := 0
  /-- 1 for a read cycle, 0 for a write cycle (R25). -/
  read : Bool := true
  /-- What the current cycles belong to (R26). -/
  seq : SeqKind := .instr
  /-- Index, from 1, of the next cycle of the current instruction or sequence (R26). -/
  tcycle : Nat := 1
  /-- Effective-address latch (R26). -/
  ad : Word := 0
  /-- Zero-page pointer latch (R26). -/
  ptr : Byte := 0
  /-- Operand and data latch (R26). -/
  opnd : Byte := 0
  /-- The high byte of `ad` still needs the page-crossing carry (R26). -/
  fix : Bool := false
  /-- IRQ input, level (R27). -/
  irqLine : Bool := false
  /-- NMI input, level (R27). -/
  nmiLine : Bool := false
  /-- NMI edge latch (R27, R603). -/
  nmiPending : Bool := false
  /-- Reset request (R27, R605). -/
  resetReq : Bool := false
deriving DecidableEq, Repr

/-! ### VIA (R30 to R40) -/

/-- One VIA port (R31), with the external levels that the environment drives: `ext` on its pins and `extC2` on its C2 pin,
which `c2` follows while C2 is an input (R404). -/
structure Port where
  or : Byte := 0
  ddr : Byte := 0
  ext : Byte := 0xFF
  p : Byte := 0xFF
  latch : Byte := 0
  c1 : Bool := true
  c2 : Bool := true
  extC2 : Bool := true
  oldC1 : Bool := true
  oldC2 : Bool := true
  pulse : Nat := 0
deriving DecidableEq, Repr

/-- One R6522 VIA (R30 to R38). `ifr` and `ier` store bits 6:0 only (R36, R37). -/
structure Via where
  id : ViaId
  a : Port := {}
  b : Port := {}
  t1 : Word := 0
  t1ll : Byte := 0
  t1lh : Byte := 0
  t2 : Word := 0
  t2ll : Byte := 0
  t2lh : Byte := 0
  sr : Byte := 0
  acr : Byte := 0
  pcr : Byte := 0
  ifr : BitVec 7 := 0
  ier : BitVec 7 := 0
  t1Timeout : Bool := false
  t1Pending : Bool := false
  t1Reload : Bool := false
  t1Pb7 : Bool := true
  t2Timeout : Bool := false
  t2Pending : Bool := false
  t2Reload : Bool := false
  oldPb6 : Bool := true
  t2Count : Bool := false
  /-- The mask the latest entry-point call returned (R402). -/
  irqMask : BitVec 7 := 0
deriving DecidableEq, Repr

/-! ### FDC (R50 to R56) and its drive handler (R484) -/

/-- The controller's states (R50). -/
inductive FdcState where
  | idle
  | wait
  | spinUp
  | restoreCheck
  | restoreStep
  | seekCheck
  | seekStep
  | seekUpdate
  | stepOnce
  | stepUpdate
  | typeIVerify
  | typeIISettle
  | typeIIFind
  | readByte
  | readNextSector
  | writeFirstDrq
  | writeByte
  | writeNextSector
  | rnfWait
  | readAddressFind
  | readAddressByte
  | forceInterrupt
  | finish
deriving DecidableEq, Repr

/-- The four sector sizes a drive handler may answer (R484). -/
inductive SectorSize where
  | b128
  | b256
  | b512
  | b1024
deriving DecidableEq, Repr

/-- One sector of the disc: where it lies, what its ID field says, and its bytes (R484; log entry 8). -/
structure Sector where
  physTrack : Nat
  index : Byte
  density : Bool := false
  idTrack : Byte
  idSide : Byte := 0
  size : SectorSize
  bytes : List Byte
deriving DecidableEq, Repr

/-- The drive-handler calls that move something outside the controller (R484). -/
inductive DriveCall where
  | spinUp
  | spinDown
  | stepIn (rateMs : Nat)
  | stepOut (rateMs : Nat)
  | setByte (sector : Byte) (offset : Word) (value : Byte)
deriving DecidableEq, Repr

/-- The drive handler's own state (R484: "physical head position, disc contents"). DESIGN CHOICE, log entry 8. -/
structure Drive where
  /-- Physical track under the head. -/
  head : Nat := 0
  /-- The disc is turning: the last of SpinUp and SpinDown. -/
  spinning : Bool := false
  /-- What `IsWriteProtected()` answers. -/
  writeProtected : Bool := false
  /-- A faulty track-0 sensor: `some b` always answers b, `none` answers from the head position. -/
  track0Fault : Option Bool := none
  /-- The disc's sectors. -/
  sectors : List Sector := []
  /-- The calls of the current step, oldest first. -/
  calls : List DriveCall := []
deriving DecidableEq, Repr

/-- The WD1770/1772 (R50 to R55). -/
structure Fdc where
  state : FdcState := .idle
  track : Byte := 0
  sector : Byte := 0
  data : Byte := 0
  status : Byte := 0
  command : Byte := 0
  waitUs : Nat := 0
  nextState : FdcState := .idle
  drq : Bool := false
  intrq : Bool := false
  motor : Bool := false
  dir : Bool := true
  restoreCount : Byte := 0
  offset : Word := 0
  secTrack : Byte := 0
  secSide : Byte := 0
  secSize : Word := 0
  idlePulses : Nat := 0
  indexUs : Nat := 0
  addrBuf : List Byte := [0, 0, 0, 0, 0, 0]
  afterSpinup : FdcState := .idle
  statusType1 : Bool := true
  irqOnIndex : Bool := false
  /-- Model input (R491). -/
  density : Bool := false
  /-- The drive handler's own state (R484). -/
  drive : Drive := {}
  /-- The model's own: how many free values the controller has drawn (R500, R520). -/
  draws : Nat := 0
deriving DecidableEq, Repr

/-! ### Tube (R60 to R66) -/

/-- One side's status latch of one channel (R61). -/
structure Latch where
  available : Bool := false
  notFull : Bool := true
deriving DecidableEq, Repr

/-- One direction of channel 3: up to two bytes (R62). -/
structure Pair where
  b0 : Byte := 0
  b1 : Byte := 0
  count : Nat := 0
deriving DecidableEq, Repr

/-- The Tube (R60 to R64). -/
structure Tube where
  h1 : Latch := {}
  h2 : Latch := {}
  h3 : Latch := {}
  h4 : Latch := {}
  p1 : Latch := {}
  p2 : Latch := {}
  p3 : Latch := {}
  p4 : Latch := {}
  h2p1 : Byte := 0
  p2h1 : List Byte
  p2h1Wr : Nat := 0
  p2h1Count : Nat := 0
  h2p2 : Byte := 0
  p2h2 : Byte := 0
  h2p3 : Pair := {}
  p2h3 : Pair := {}
  h2p4 : Byte := 0
  p2h4 : Byte := 0
  tstat : BitVec 6 := 0
  hirq : Bool := false
  pirq : Bool := false
  pnmi : Bool := false
  /-- The model's own: the byte the last parasite read returned. -/
  pdata : Byte := 0
deriving DecidableEq, Repr

/-! ### Environment (R3, R404, R491, R613) -/

/-- The external levels on one VIA: the port pins and the four control lines (R404). -/
structure ViaLines where
  extA : Byte := 0xFF
  extB : Byte := 0xFF
  ca1 : Bool := true
  ca2 : Bool := true
  cb1 : Bool := true
  cb2 : Bool := true
deriving DecidableEq, Repr

/-- The input levels the environment holds on the block. -/
structure EnvLevels where
  sys : ViaLines := {}
  usr : ViaLines := {}
  /-- The platform's other IRQ sources (R613). -/
  otherIrq : Bool := false
  /-- The platform's other NMI sources (R613). -/
  otherNmi : Bool := false
  /-- The recording density the disc-interface wrapper has selected (R491). -/
  density : Bool := false
deriving DecidableEq, Repr

/-- One register access of the parasite (R3, R551). -/
inductive ParasiteAccess where
  | read (r : BitVec 3)
  | write (r : BitVec 3) (v : Byte)
deriving DecidableEq, Repr

/-- What the environment does in one system cycle. DESIGN CHOICE, log entry 7. -/
structure EnvInput where
  /-- The levels from this cycle on. -/
  levels : EnvLevels := {}
  /-- Set `reset_req` (R27, R605). -/
  resetReq : Bool := false
  /-- The parasite's Tube accesses before the CPU's access of this cycle, in order (R115). -/
  parasiteBefore : List ParasiteAccess := []
  /-- The parasite's Tube accesses after the CPU's access of this cycle, in order (R115). -/
  parasiteAfter : List ParasiteAccess := []
  /-- A new drive or disc from this cycle on. -/
  drive : Option Drive := none
deriving DecidableEq, Repr

/-! ### The machine -/

/-- The whole machine. `mem` is the canonical list of the memory bytes that differ from what an unlisted address reads
as (`Memory.read`, `Memory.wf` in Machine/Ops.lean). -/
structure State where
  cfg : Config
  cpu : Cpu
  sysVia : Via
  usrVia : Via
  fdc : Fdc
  tube : Tube
  mem : List Host.Cell
  env : EnvLevels
  script : List EnvInput
  fdcPhase : Nat
  freeReads : Nat
  bus : List BusCycle
deriving DecidableEq, Repr

/-- The Tube's state after its reset (R66), for a ring buffer of the given depth. -/
def Tube.initial (depth : Nat) : Tube := { p2h1 := List.replicate depth 0 }

/-- The machine at power-on, before the reset sequence: `reset_req` is 1 (R605) and every device has its reset values
(R40, R56, R66). Every value the spec leaves to `draw` is one the model names: log entries 1 to 6. T1 and T2
start at 7 so that they stand at 0 after the seven cycles of the reset sequence. DESIGN CHOICE, log entry 5: PC is $0000
before the reset sequence, so its two discarded reads c1 and c2 (R608) are reads of $0000. DESIGN CHOICE, log entry 10:
`fdcPhase` starts at 1, which at the default ratio puts the first `Update()` into the first cycle after power-on. -/
def State.powerOn : State where
  cfg := Config.default
  cpu := { resetReq := true }
  sysVia := { id := .system, t1 := 7, t2 := 7 }
  usrVia := { id := .user, t1 := 7, t2 := 7 }
  fdc := {}
  tube := Tube.initial Config.default.tubeDepth
  mem := []
  env := {}
  script := []
  fdcPhase := 1
  freeReads := 0
  bus := []

/-- The machine right after reset: the CPU state is that of R28, the VIAs that of R40, the FDC that of R56, the Tube that
of R66, memory empty. It is what the reset sequence of R608 makes of `State.powerOn` (proved in the tests); `bus` holds
that sequence's seven cycles, the first two at the power-on PC $0000 (DESIGN CHOICE, log entry 5). The values the spec
leaves unspecified are DESIGN CHOICE: log entries 1 to 6. DESIGN CHOICE, log entry 10: `fdcPhase` is 0, so that at the
default ratio the first `Update()` after reset falls in the second cycle. -/
def State.reset : State where
  cfg := Config.default
  cpu := { s := 0xFD, p := { i := true }, abus := 0xFFFD }
  sysVia := { id := .system }
  usrVia := { id := .user }
  fdc := {}
  tube := Tube.initial Config.default.tubeDepth
  mem := []
  env := {}
  script := []
  fdcPhase := 0
  freeReads := 0
  bus := [⟨0, 0, true⟩, ⟨0, 0, true⟩, ⟨0x0100, 0, true⟩, ⟨0x01FF, 0, true⟩, ⟨0x01FE, 0, true⟩,
    ⟨0xFFFC, 0, true⟩, ⟨0xFFFD, 0, true⟩]

/-- Reasons a step can stop with a fault. There is NONE: no access and no operation of this hardware faults (R107, R112,
R472, R530, R600), so the type has no constructor and no step answers `fault`. Safe: see log entry 25. -/
inductive Fault where
deriving DecidableEq, Repr

/-- Reasons the model gives a situation no meaning. -/
inductive Refusal where
  /-- Raised by `exec`'s arm of an instruction that has no meaning yet (none is left). Safe: nothing is claimed. -/
  | notModelled (mnemonic : String)
  /-- Raised by the instruction whose opcode is one of the 105 reserved values (R147, R195, D2: "a model refuses"). Safe:
  the hardware would go on, the model claims nothing of it. -/
  | reservedOpcode (opcode : Byte)
  /-- Raised by a write of $E0 to $EF to the FDC command register while the controller is not busy (R521, D22). Safe. -/
  | fdcReadTrack (command : Byte)
  /-- Raised by a write of $F0 to $FF to the FDC command register while the controller is not busy (R522, D22). Safe. -/
  | fdcWriteTrack (command : Byte)
deriving DecidableEq, Repr

end Sys2Proof.Machine
end

