-- ==== Sys2Proof/Machine/Fdc.lean ====
section
/-! DEFINITION. The WD1770/1772 controller (45_fdc.md): its drive handler, the register accesses, the commands, and
`Update()`. Each is a function of the controller with its handler. -/

namespace Sys2Proof.Machine

/-! ### Drive handler (R484; the handler's own behaviour is DESIGN CHOICE, log entry 8) -/

/-- The size in bytes. -/
def SectorSize.bytes : SectorSize → Word
  | .b128 => 128
  | .b256 => 256
  | .b512 => 512
  | .b1024 => 1024

/-- `code(size)` of the Read Address length byte (R520). -/
def SectorSize.code : SectorSize → Byte
  | .b128 => 0
  | .b256 => 1
  | .b512 => 2
  | .b1024 => 3

/-- The sector under the head with the given index: the first one listed. -/
def Drive.sectorAt (d : Drive) (index : Byte) : Option Sector :=
  d.sectors.find? fun q => q.physTrack == d.head && q.index == index

/-- `GetSectorDetails(sector_index, density)`: that sector, if it is recorded in the density asked for (R484, R491). -/
def Drive.find (d : Drive) (index : Byte) (density : Bool) : Option Sector :=
  (d.sectorAt index).filter fun q => q.density == density

/-- `IsTrack0()`. -/
def Drive.isTrack0 (d : Drive) : Bool :=
  match d.track0Fault with
  | some b => b
  | none => d.head == 0

/-- Record a call of the current step. -/
def Drive.call (d : Drive) (c : DriveCall) : Drive := { d with calls := d.calls ++ [c] }

/-- `SpinUp()`. -/
def Drive.spinUp (d : Drive) : Drive := { d.call .spinUp with spinning := true }

/-- `SpinDown()`. -/
def Drive.spinDown (d : Drive) : Drive := { d.call .spinDown with spinning := false }

/-- `StepIn(rate)`: one track toward higher numbers. -/
def Drive.stepIn (d : Drive) (rate : Nat) : Drive := { d.call (.stepIn rate) with head := d.head + 1 }

/-- `StepOut(rate)`: one track toward lower numbers; the head stops at track 0. -/
def Drive.stepOut (d : Drive) (rate : Nat) : Drive := { d.call (.stepOut rate) with head := d.head - 1 }

/-- `GetByte(sector, offset)`: `none` is the answer false. -/
def Drive.getByte (d : Drive) (index : Byte) (offset : Word) : Option Byte :=
  match d.sectorAt index with
  | some q => q.bytes[offset.toNat]?
  | none => none

/-- The sectors with one byte replaced in the first sector that matches. -/
def writeSectors (head : Nat) (index : Byte) (offset : Nat) (b : Byte) : List Sector → List Sector
  | [] => []
  | q :: rest =>
    if q.physTrack == head && q.index == index then { q with bytes := q.bytes.set offset b } :: rest
    else q :: writeSectors head index offset b rest

/-- `SetByte(sector, offset, value)`: nothing is written on a protected disc or where there is no such byte. -/
def Drive.setByte (d : Drive) (index : Byte) (offset : Word) (b : Byte) : Drive :=
  let e := d.call (.setByte index offset b)
  if e.writeProtected then e
  else { e with sectors := writeSectors e.head index offset.toNat b e.sectors }

/-! ### Helpers -/

/-- `step_ms(command)` (R168). -/
def stepMs (variant : FdcVariant) (command : Byte) : Nat :=
  match (command.extractLsb' 0 2).toNat, variant with
  | 0, _ => 6
  | 1, _ => 12
  | 2, .wd1770 => 20
  | 2, .wd1772 => 2
  | _, .wd1770 => 30
  | _, .wd1772 => 3

/-- `Wait(n, s)` (R483). -/
def Fdc.waitFor (f : Fdc) (n : Nat) (next : FdcState) : Fdc :=
  { f with waitUs := n, nextState := next, state := .wait }

/-- Set one status bit. -/
def Fdc.setStatus (f : Fdc) (i : Nat) (b : Bool) : Fdc := { f with status := setBit 8 f.status i b }

/-- `index_now` (R482). -/
def Fdc.indexNow (cfg : Config) (f : Fdc) : Bool := f.motor && decide (f.indexUs < cfg.fdcIndexPulseUs)

/-- Busy: `status[0]` (R52). -/
def Fdc.busy (f : Fdc) : Bool := bit f.status 0

/-- The controller stops for the six index pulses of a failed search (R512, R520). -/
def Fdc.waitRnf (cfg : Config) (f : Fdc) : Fdc :=
  f.waitFor (cfg.fdcRnfPulses * cfg.fdcIndexPeriodUs) .rnfWait

/-! ### Register reads -/

/-- Read r = 0, status (R486): Type I mirrors the drive inputs, Type II and III the DRQ pin; INTRQ is cleared. -/
def Fdc.readStatus (cfg : Config) (f : Fdc) : Byte × Fdc :=
  let v := setBit 8 f.status 7 f.motor
  let v :=
    if f.statusType1 then
      setBit 8 (setBit 8 (setBit 8 v 6 f.drive.writeProtected) 2 f.drive.isTrack0) 1 (f.indexNow cfg)
    else setBit 8 v 1 f.drq
  (v, { f with intrq := false })

/-- Read r = 1, track (R488). -/
def Fdc.readTrack (f : Fdc) : Byte × Fdc := (f.track, f)

/-- Read r = 2, sector (R488). -/
def Fdc.readSector (f : Fdc) : Byte × Fdc := (f.sector, f)

/-- Read r = 3, data (R489): DRQ is cleared. -/
def Fdc.readData (f : Fdc) : Byte × Fdc := (f.data, { f with drq := false })

/-! ### Commands (R487, R495, R500 to R525) -/

/-- The latches and status bits that accepting a command sets (R487). -/
def Fdc.acceptCommand (v : Byte) (f : Fdc) : Fdc :=
  let g := { f with command := v, intrq := false, drq := false, idlePulses := 0, irqOnIndex := false }
  if bit v 7 then { g with statusType1 := false, status := 0x01 }
  else { g with statusType1 := true, status := (f.status &&& 0xC6) ||| 0x01 }

/-- Spin-up gating with the command's first state (R495). -/
def Fdc.gateSpinUp (cfg : Config) (first : FdcState) (f : Fdc) : Fdc :=
  let wasOff := !f.motor
  let g := if wasOff then { f with motor := true, drive := f.drive.spinUp } else f
  if !bit f.command 3 && wasOff then
    ({ g with afterSpinup := first } : Fdc).waitFor (cfg.fdcSpinupPulses * cfg.fdcIndexPeriodUs) .spinUp
  else { g.setStatus 5 true with state := first }

/-- A command other than Force Interrupt: ignored while busy (R487), else accepted, prepared and gated. -/
def Fdc.startCommand (cfg : Config) (v : Byte) (prepare : Fdc → Fdc × FdcState) (f : Fdc) : Fdc :=
  if f.busy then f
  else
    let r := prepare (f.acceptCommand v)
    r.1.gateSpinUp cfg r.2

/-- Restore (R500). -/
def Fdc.restore (cfg : Config) (v : Byte) (f : Fdc) : Fdc :=
  f.startCommand cfg v fun g => ({ g with restoreCount := 0 }, .restoreCheck)

/-- Seek (R501). -/
def Fdc.seek (cfg : Config) (v : Byte) (f : Fdc) : Fdc :=
  f.startCommand cfg v fun g => (g, .seekCheck)

/-- Step (R502): the direction of the last step. -/
def Fdc.step (cfg : Config) (v : Byte) (f : Fdc) : Fdc :=
  f.startCommand cfg v fun g => (g, .stepOnce)

/-- Step-In (R503). -/
def Fdc.stepInCmd (cfg : Config) (v : Byte) (f : Fdc) : Fdc :=
  f.startCommand cfg v fun g => ({ g with dir := true }, .stepOnce)

/-- Step-Out (R504). -/
def Fdc.stepOutCmd (cfg : Config) (v : Byte) (f : Fdc) : Fdc :=
  f.startCommand cfg v fun g => ({ g with dir := false }, .stepOnce)

/-- Read Sector (R510). -/
def Fdc.readSectorCmd (cfg : Config) (v : Byte) (f : Fdc) : Fdc :=
  f.startCommand cfg v fun g => (g, .typeIISettle)

/-- Write Sector (R511): a protected disc finishes at once with status bit 6. -/
def Fdc.writeSectorCmd (cfg : Config) (v : Byte) (f : Fdc) : Fdc :=
  f.startCommand cfg v fun g =>
    if g.drive.writeProtected then (g.setStatus 6 true, .finish) else (g, .typeIISettle)

/-- Read Address (R520): "after the E delay as in TypeII_Settle" (log entry 13). -/
def Fdc.readAddressCmd (cfg : Config) (v : Byte) (f : Fdc) : Fdc :=
  f.startCommand cfg v fun g => (g, .typeIISettle)

/-- Force Interrupt (R525), accepted even while busy (R487). -/
def Fdc.forceInt (v : Byte) (f : Fdc) : Fdc :=
  let g :=
    if f.busy then { f with command := v, waitUs := 0, status := setBit 8 f.status 0 false }
    else { f with command := v, statusType1 := true, status := f.status &&& 0xC6 }
  { g with irqOnIndex := bit v 2, intrq := f.intrq || bit v 3, idlePulses := 0, state := .idle }

/-- Read Track (R521): refused while idle, ignored while busy. -/
def Fdc.readTrackCmd (v : Byte) (f : Fdc) : Except Refusal Fdc :=
  if f.busy then .ok f else .error (.fdcReadTrack v)

/-- Write Track (R522): refused while idle, ignored while busy. -/
def Fdc.writeTrackCmd (v : Byte) (f : Fdc) : Except Refusal Fdc :=
  if f.busy then .ok f else .error (.fdcWriteTrack v)

/-- Write r = 0, command (R487): the top nibble selects the command (R166). -/
def Fdc.writeCommand (cfg : Config) (v : Byte) (f : Fdc) : Except Refusal Fdc :=
  match (v.extractLsb' 4 4).toNat with
  | 0x0 => .ok (f.restore cfg v)
  | 0x1 => .ok (f.seek cfg v)
  | 0x2 => .ok (f.step cfg v)
  | 0x3 => .ok (f.step cfg v)
  | 0x4 => .ok (f.stepInCmd cfg v)
  | 0x5 => .ok (f.stepInCmd cfg v)
  | 0x6 => .ok (f.stepOutCmd cfg v)
  | 0x7 => .ok (f.stepOutCmd cfg v)
  | 0x8 => .ok (f.readSectorCmd cfg v)
  | 0x9 => .ok (f.readSectorCmd cfg v)
  | 0xA => .ok (f.writeSectorCmd cfg v)
  | 0xB => .ok (f.writeSectorCmd cfg v)
  | 0xC => .ok (f.readAddressCmd cfg v)
  | 0xD => .ok (f.forceInt v)
  | 0xE => f.readTrackCmd v
  | _ => f.writeTrackCmd v

/-- Write r = 1, track (R488). -/
def Fdc.writeTrack (v : Byte) (f : Fdc) : Fdc := { f with track := v }

/-- Write r = 2, sector (R488). -/
def Fdc.writeSector (v : Byte) (f : Fdc) : Fdc := { f with sector := v }

/-- Write r = 3, data (R490): DRQ is cleared. -/
def Fdc.writeData (v : Byte) (f : Fdc) : Fdc := { f with data := v, drq := false }

/-- `RegRead(fdc, r)` (R165). -/
def Fdc.regRead (cfg : Config) (r : BitVec 2) (f : Fdc) : Byte × Fdc :=
  match r.toNat with
  | 0 => f.readStatus cfg
  | 1 => f.readTrack
  | 2 => f.readSector
  | _ => f.readData

/-- `RegWrite(fdc, r, v)` (R165). -/
def Fdc.regWrite (cfg : Config) (r : BitVec 2) (v : Byte) (f : Fdc) : Except Refusal Fdc :=
  match r.toNat with
  | 0 => f.writeCommand cfg v
  | 1 => .ok (f.writeTrack v)
  | 2 => .ok (f.writeSector v)
  | _ => .ok (f.writeData v)

/-! ### The states' actions (R496 to R520) -/

/-- Step delay of the running command in microseconds (R168, R497). -/
def Fdc.stepDelay (cfg : Config) (f : Fdc) : Nat := stepMs cfg.fdcVariant f.command * 1000

/-- `StepIn(step_ms)`. -/
def Fdc.driveIn (cfg : Config) (f : Fdc) : Fdc :=
  { f with drive := f.drive.stepIn (stepMs cfg.fdcVariant f.command) }

/-- `StepOut(step_ms)`. -/
def Fdc.driveOut (cfg : Config) (f : Fdc) : Fdc :=
  { f with drive := f.drive.stepOut (stepMs cfg.fdcVariant f.command) }

/-- `Finish` (R485). -/
def Fdc.runFinish (f : Fdc) : Fdc :=
  { f.setStatus 0 false with intrq := true, idlePulses := 0, state := .idle }

/-- `SpinUp` (R496). -/
def Fdc.runSpinUp (f : Fdc) : Fdc := { f.setStatus 5 true with state := f.afterSpinup }

/-- `TypeI_Verify` (R497): a settle that never fails. -/
def Fdc.runTypeIVerify (cfg : Config) (f : Fdc) : Fdc :=
  if bit f.command 2 then f.waitFor cfg.fdcSettleUs .finish else { f with state := .finish }

/-- `Restore_Check` (R500); the abandon bit with V = 0 is a free value (U4). -/
def Fdc.runRestoreCheck (cfg : Config) (f : Fdc) : Fdc :=
  if f.drive.isTrack0 then { f with track := 0, state := .typeIVerify }
  else if f.restoreCount.toNat = cfg.fdcRestoreLimit then
    if bit f.command 2 then { f.setStatus 4 true with state := .finish }
    else { f.setStatus 4 (Config.restoreRnf f.draws) with draws := f.draws + 1, state := .finish }
  else { f with state := .restoreStep }

/-- `Restore_Step` (R500). -/
def Fdc.runRestoreStep (cfg : Config) (f : Fdc) : Fdc :=
  ({ f.driveOut cfg with dir := false, restoreCount := f.restoreCount + 1 } : Fdc).waitFor
    (f.stepDelay cfg) .restoreCheck

/-- `Seek_Check` (R501). -/
def Fdc.runSeekCheck (f : Fdc) : Fdc :=
  { f with state := if f.track = f.data then .typeIVerify else .seekStep }

/-- `Seek_Step` (R501). -/
def Fdc.runSeekStep (cfg : Config) (f : Fdc) : Fdc :=
  if f.track < f.data then
    ({ f.driveIn cfg with dir := true } : Fdc).waitFor (f.stepDelay cfg) .seekUpdate
  else if f.drive.isTrack0 then { f with track := 0, state := .typeIVerify }
  else ({ f.driveOut cfg with dir := false } : Fdc).waitFor (f.stepDelay cfg) .seekUpdate

/-- The track register moved by one in the step direction. -/
def Fdc.moveTrack (f : Fdc) : Byte := if f.dir then f.track + 1 else f.track - 1

/-- `Seek_Update` (R501). -/
def Fdc.runSeekUpdate (f : Fdc) : Fdc := { f with track := f.moveTrack, state := .seekCheck }

/-- `Step_Once` (R505). -/
def Fdc.runStepOnce (cfg : Config) (f : Fdc) : Fdc :=
  if !f.dir && f.drive.isTrack0 then { f with track := 0, state := .typeIVerify }
  else (if f.dir then f.driveIn cfg else f.driveOut cfg).waitFor (f.stepDelay cfg) .stepUpdate

/-- `Step_Update` (R505). -/
def Fdc.runStepUpdate (f : Fdc) : Fdc :=
  { f with track := if bit f.command 4 then f.moveTrack else f.track, state := .typeIVerify }

/-- The search state of the running command: Read Address ($Cx) has its own (R520), the Type II commands share theirs. -/
def Fdc.findState (f : Fdc) : FdcState := if bit f.command 6 then .readAddressFind else .typeIIFind

/-- `TypeII_Settle` (R512): the E delay, then the search. -/
def Fdc.runTypeIISettle (cfg : Config) (f : Fdc) : Fdc :=
  if bit f.command 2 then f.waitFor cfg.fdcSettleUs f.findState else { f with state := f.findState }

/-- Store the answer of `GetSectorDetails` (R55). -/
def Fdc.sectorDetails (q : Sector) (f : Fdc) : Fdc :=
  { f with secTrack := q.idTrack, secSide := q.idSide, secSize := q.size.bytes }

/-- `TypeII_Find` (R512). -/
def Fdc.runTypeIIFind (cfg : Config) (f : Fdc) : Fdc :=
  match f.drive.find f.sector f.density with
  | none => f.waitRnf cfg
  | some q =>
    let g := f.sectorDetails q
    if g.secTrack ≠ g.track then g.waitRnf cfg
    else if bit g.command 5 then ({ g with offset := 0 } : Fdc).waitFor cfg.fdcByteUs .writeFirstDrq
    else (({ g with offset := 0 } : Fdc).setStatus 5 false).waitFor cfg.fdcByteUs .readByte

/-- `RNF_Wait` (R513). -/
def Fdc.runRnfWait (f : Fdc) : Fdc := { (f.setStatus 4 true).setStatus 3 true with state := .finish }

/-- Lost data if the byte before was not serviced (R510, R520). -/
def Fdc.noteLost (f : Fdc) : Fdc := if f.drq then f.setStatus 2 true else f

/-- `Read_Byte` (R510): an unread byte is overwritten; a false `GetByte` leaves `data` (R484). -/
def Fdc.runReadByte (cfg : Config) (f : Fdc) : Fdc :=
  let g := f.noteLost
  let h := { g with
    data := (g.drive.getByte g.sector g.offset).getD g.data, drq := true, offset := g.offset + 1 }
  if h.offset = h.secSize then h.waitFor cfg.fdcByteUs .readNextSector
  else h.waitFor cfg.fdcByteUs .readByte

/-- `Write_FirstDRQ` (R511). -/
def Fdc.runWriteFirstDrq (cfg : Config) (f : Fdc) : Fdc :=
  ({ f with drq := true } : Fdc).waitFor cfg.fdcByteUs .writeByte

/-- `Write_Byte` (R511): an unserviced byte is written as $00. -/
def Fdc.runWriteByte (cfg : Config) (f : Fdc) : Fdc :=
  let b := if f.drq then 0 else f.data
  let g := f.noteLost
  let h := { g with
    drive := g.drive.setByte g.sector g.offset b, offset := g.offset + 1 }
  if h.offset = h.secSize then h.waitFor cfg.fdcByteUs .writeNextSector
  else ({ h with drq := true } : Fdc).waitFor cfg.fdcByteUs .writeByte

/-- The multi-sector look-ahead of R515: the next sector's description when there is one on this track. -/
def Fdc.nextSector (f : Fdc) : Option Sector :=
  match f.drive.find (f.sector + 1) f.density with
  | some q => if q.idTrack = f.track then some q else none
  | none => none

/-- The state at the start of the next sector of a multi-sector command (R515). -/
def Fdc.enterNext (q : Sector) (f : Fdc) : Fdc :=
  { f with sector := f.sector + 1, secSize := q.size.bytes, offset := 0 }

/-- `Read_NextSector` (R515). -/
def Fdc.runReadNextSector (cfg : Config) (f : Fdc) : Fdc :=
  let g := f.noteLost
  match (if bit g.command 4 then g.nextSector else none) with
  | some q => (g.enterNext q).waitFor cfg.fdcByteUs .readByte
  | none => { g with state := .finish }

/-- `Write_NextSector` (R515). -/
def Fdc.runWriteNextSector (cfg : Config) (f : Fdc) : Fdc :=
  match (if bit f.command 4 then f.nextSector else none) with
  | some q => ({ f.enterNext q with drq := true } : Fdc).waitFor cfg.fdcByteUs .writeByte
  | none => { f with state := .finish }

/-- `ReadAddress_Find` (R520): the ID field of sector 0; the CRC bytes are free values (U5). -/
def Fdc.runReadAddressFind (cfg : Config) (f : Fdc) : Fdc :=
  match f.drive.find 0 f.density with
  | none => f.waitRnf cfg
  | some q =>
    let g := f.sectorDetails q
    ({ g with
        addrBuf := [g.secTrack, g.secSide, 0, q.size.code, Config.crcByte g.draws, Config.crcByte (g.draws + 1)]
        draws := g.draws + 2, sector := g.secTrack, offset := 0 } : Fdc).waitFor cfg.fdcByteUs .readAddressByte

/-- `ReadAddress_Byte` (R520). -/
def Fdc.runReadAddressByte (cfg : Config) (f : Fdc) : Fdc :=
  let g := f.noteLost
  let h := { g with data := g.addrBuf.getD g.offset.toNat 0, drq := true, offset := g.offset + 1 }
  if h.offset = 6 then h.waitFor cfg.fdcByteUs .finish else h.waitFor cfg.fdcByteUs .readAddressByte

/-- `run(state)` (R483). `Idle` and `Wait` are never run (R481); `ForceInterrupt` is only passed through inside the
register write (R525) and ends in `Idle`. -/
def Fdc.runState (cfg : Config) (f : Fdc) : Fdc :=
  match f.state with
  | .idle => f
  | .wait => f
  | .spinUp => f.runSpinUp
  | .restoreCheck => f.runRestoreCheck cfg
  | .restoreStep => f.runRestoreStep cfg
  | .seekCheck => f.runSeekCheck
  | .seekStep => f.runSeekStep cfg
  | .seekUpdate => f.runSeekUpdate
  | .stepOnce => f.runStepOnce cfg
  | .stepUpdate => f.runStepUpdate
  | .typeIVerify => f.runTypeIVerify cfg
  | .typeIISettle => f.runTypeIISettle cfg
  | .typeIIFind => f.runTypeIIFind cfg
  | .readByte => f.runReadByte cfg
  | .readNextSector => f.runReadNextSector cfg
  | .writeFirstDrq => f.runWriteFirstDrq cfg
  | .writeByte => f.runWriteByte cfg
  | .writeNextSector => f.runWriteNextSector cfg
  | .rnfWait => f.runRnfWait
  | .readAddressFind => f.runReadAddressFind cfg
  | .readAddressByte => f.runReadAddressByte cfg
  | .forceInterrupt => { f with state := .idle }
  | .finish => f.runFinish

/-- The controller rests: `Idle` or `Wait`. -/
def Fdc.resting (f : Fdc) : Bool := f.state == .idle || f.state == .wait

/-- `while state ∉ {Idle, Wait} do run(state)` (R481), for at most `fuel` rounds: no chain of states is longer than 8
(log entry 21). -/
def Fdc.runStates (cfg : Config) : Nat → Fdc → Fdc
  | 0, f => f
  | fuel + 1, f => if f.resting then f else Fdc.runStates cfg fuel (f.runState cfg)

/-- A tick of the FDC carries the index position to the end of the revolution, or past it (R482; log entry 17 for a tick
that is not 1). -/
def Fdc.wraps (cfg : Config) (f : Fdc) : Bool :=
  decide (f.indexUs < cfg.fdcIndexPeriodUs) && decide (cfg.fdcIndexPeriodUs ≤ f.indexUs + cfg.fdcTickUs)

/-- Index position, index interrupts and spin-down (R482). -/
def Fdc.indexTick (cfg : Config) (f : Fdc) : Fdc :=
  if !f.motor then f
  else if !f.wraps cfg then { f with indexUs := f.indexUs + cfg.fdcTickUs }
  else
    let g := { f with indexUs := (f.indexUs + cfg.fdcTickUs) % cfg.fdcIndexPeriodUs, intrq := f.intrq || f.irqOnIndex }
    if g.state ≠ .idle then g
    else if g.idlePulses + 1 ≠ cfg.fdcSpindownPulses then { g with idlePulses := g.idlePulses + 1 }
    else { g with idlePulses := g.idlePulses + 1, motor := false, indexUs := 0, drive := g.drive.spinDown }

/-- The wait countdown (R481). -/
def Fdc.waitTick (cfg : Config) (f : Fdc) : Fdc :=
  if f.state ≠ .wait then f
  else if f.waitUs - cfg.fdcTickUs = 0 then { f with waitUs := 0, state := f.nextState }
  else { f with waitUs := f.waitUs - cfg.fdcTickUs }

/-- `Update()` (R481). -/
def Fdc.update (cfg : Config) (f : Fdc) : Fdc := Fdc.runStates cfg 8 ((f.indexTick cfg).waitTick cfg)

/-- `n` calls of `Update()`. -/
def Fdc.updates (cfg : Config) : Nat → Fdc → Fdc
  | 0, f => f
  | n + 1, f => Fdc.updates cfg n (f.update cfg)

/-! ### Reset (R56) -/

/-- The controller's reset (R56): registers $00, pins low, motor off; the drive and the density input are the
environment's and stay; the answers of the handler, unspecified, keep what they held (R653). -/
def Fdc.reset (f : Fdc) : Fdc :=
  { drive := f.drive, density := f.density, draws := f.draws, nextState := f.nextState
    secTrack := f.secTrack, secSide := f.secSide, secSize := f.secSize, addrBuf := f.addrBuf }

end Sys2Proof.Machine
end

