-- ==== Sys2Proof/Machine/Flags.lean ====
section
/-! DEFINITION. The flags register's byte image (R10, R23) and every flag computation of the ALU (R320 to R324). -/

namespace Sys2Proof.Machine

/-! ### The byte image -/

/-- `PByte(b)` (R10): `{N, V, 1, b, D, I, Z, C}`. -/
def Flags.toByte (p : Flags) (b : Bool) : Byte := byteOfBits p.n p.v true b p.d p.i p.z p.c

/-- The six stored flags of a pulled byte; bits 5 and 4 are ignored (R265, R354). -/
def Flags.ofByte (t : Byte) : Flags :=
  { n := bit t 7, v := bit t 6, d := bit t 3, i := bit t 2, z := bit t 1, c := bit t 0 }

/-- `setNZ(v)` (R10). -/
def Flags.setNZ (p : Flags) (v : Byte) : Flags := { p with n := bit v 7, z := v == 0 }

/-! ### Binary arithmetic -/

/-- Sum, carry and overflow of an ALU addition. -/
structure AluResult where
  sum : Byte
  carry : Bool
  overflow : Bool
deriving DecidableEq, Repr

/-- `add8(a, b, cin)` (R321): nine-bit sum; overflow when `a` and `b` have one sign and the sum the other. -/
def add8 (a b : Byte) (cin : Bool) : AluResult :=
  let s9 := a.toNat + b.toNat + cin.toNat
  let s := BitVec.ofNat 8 s9
  { sum := s, carry := decide (256 ≤ s9), overflow := bit (~~~(a ^^^ b) &&& (a ^^^ s)) 7 }

/-- `sub8(a, b, cin)` (R322): addition of the one's complement. -/
def sub8 (a b : Byte) (cin : Bool) : AluResult := add8 a (b ^^^ 0xFF) cin

/-- What ADC and SBC leave: the accumulator and the flags. -/
structure AdcResult where
  a : Byte
  p : Flags
deriving DecidableEq, Repr

/-- The flags N, V, Z, C of a binary addition. -/
def Flags.ofAlu (p : Flags) (r : AluResult) : Flags :=
  { p.setNZ r.sum with c := r.carry, v := r.overflow }

/-- Binary ADC (R290, D = 0). -/
def adcBinary (a m : Byte) (p : Flags) : AdcResult :=
  let r := add8 a m p.c
  { a := r.sum, p := p.ofAlu r }

/-- Binary SBC (R291, D = 0). -/
def sbcBinary (a m : Byte) (p : Flags) : AdcResult :=
  let r := sub8 a m p.c
  { a := r.sum, p := p.ofAlu r }

/-! ### Decimal arithmetic -/

/-- The low-digit sum of R323 after its correction. -/
def adcLow (a m c : Nat) : Nat :=
  let al := a % 16 + m % 16 + c
  if 10 ≤ al then (al + 6) % 16 + 16 else al

/-- The intermediate `t` of R323 before the high-digit correction. -/
def adcMid (a m c : Nat) : Nat := a / 16 * 16 + m / 16 * 16 + adcLow a m c

/-- Decimal ADC (R323): N and V from the intermediate value, Z from the binary sum, C and A from the corrected sum. -/
def adcDecimal (a m : Byte) (p : Flags) : AdcResult :=
  let t := adcMid a.toNat m.toNat p.c.toNat
  let u := if 0xA0 ≤ t then t + 0x60 else t
  { a := BitVec.ofNat 8 u
    p := { p with
      n := t.testBit 7
      v := bit (~~~(a ^^^ m) &&& (a ^^^ BitVec.ofNat 8 t)) 7
      c := decide (0x100 ≤ u)
      z := (a.toNat + m.toNat + p.c.toNat) % 256 == 0 } }

/-- The low-digit difference of R324 after its correction. -/
def sbcLow (a m c : Int) : Int :=
  let al := a % 16 - m % 16 + c - 1
  if al < 0 then (al - 6) % 16 - 16 else al

/-- The corrected difference of R324 before it is cut to eight bits. -/
def sbcWide (a m c : Int) : Int :=
  let t := a / 16 * 16 - m / 16 * 16 + sbcLow a m c
  if t < 0 then t - 0x60 else t

/-- Decimal SBC (R324): the four flags are those of the binary subtraction. -/
def sbcDecimal (a m : Byte) (p : Flags) : AdcResult :=
  { a := BitVec.ofInt 8 (sbcWide a.toNat m.toNat p.c.toNat), p := p.ofAlu (sub8 a m p.c) }

/-- ADC (R290). -/
def adcResult (a m : Byte) (p : Flags) : AdcResult := if p.d then adcDecimal a m p else adcBinary a m p

/-- SBC (R291). -/
def sbcResult (a m : Byte) (p : Flags) : AdcResult := if p.d then sbcDecimal a m p else sbcBinary a m p

/-! ### Compares, bit test, shifts -/

/-- The flags of a compare (R295 to R297): always binary, V unchanged. -/
def Flags.compare (p : Flags) (r m : Byte) : Flags :=
  let q := sub8 r m true
  { p.setNZ q.sum with c := q.carry }

/-- The flags of BIT (R298). -/
def Flags.bitTest (p : Flags) (a m : Byte) : Flags :=
  { p with z := a &&& m == 0, n := bit m 7, v := bit m 6 }

/-- A result byte and the flags after it. -/
structure ByteResult where
  r : Byte
  p : Flags
deriving DecidableEq, Repr

/-- ASL (R305). -/
def aslResult (m : Byte) (p : Flags) : ByteResult :=
  let r := m <<< 1
  { r := r, p := { p.setNZ r with c := bit m 7 } }

/-- LSR (R306). -/
def lsrResult (m : Byte) (p : Flags) : ByteResult :=
  let r := m >>> 1
  { r := r, p := { p.setNZ r with c := bit m 0 } }

/-- ROL (R307). -/
def rolResult (m : Byte) (p : Flags) : ByteResult :=
  let r := (m <<< 1) ||| (BitVec.ofBool p.c).setWidth 8
  { r := r, p := { p.setNZ r with c := bit m 7 } }

/-- ROR (R308). -/
def rorResult (m : Byte) (p : Flags) : ByteResult :=
  let r := (m >>> 1) ||| ((BitVec.ofBool p.c).setWidth 8 <<< 7)
  { r := r, p := { p.setNZ r with c := bit m 0 } }

/-- INC (R299). -/
def incResult (m : Byte) (p : Flags) : ByteResult := { r := m + 1, p := p.setNZ (m + 1) }

/-- DEC (R300). -/
def decResult (m : Byte) (p : Flags) : ByteResult := { r := m - 1, p := p.setNZ (m - 1) }

end Sys2Proof.Machine
end

