-- ==== Sys2Proof/Machine/Tube.lean ====
section
/-! DEFINITION. The Tube (46_tube.md): the register reads and writes of both sides, the derived interrupt lines, the FIFO
clear. Each is one atomic function of the Tube's state (R551). -/

namespace Sys2Proof.Machine

/-! ### Control bits (R63) -/

/-- Q: host IRQ from channel 4. -/
def Tube.q (t : Tube) : Bool := t.tstat.getLsbD 0

/-- I: parasite IRQ from channel 1. -/
def Tube.i (t : Tube) : Bool := t.tstat.getLsbD 1

/-- J: parasite IRQ from channel 4. -/
def Tube.j (t : Tube) : Bool := t.tstat.getLsbD 2

/-- M: parasite NMI from channel 3. -/
def Tube.m (t : Tube) : Bool := t.tstat.getLsbD 3

/-- V: channel 3 in 2-byte mode. -/
def Tube.v (t : Tube) : Bool := t.tstat.getLsbD 4

/-- P: the parasite reset output `prst` (R582). -/
def Tube.prst (t : Tube) : Bool := t.tstat.getLsbD 5

/-! ### Shared rules -/

/-- `thr` (R565, R580). -/
def Tube.thr (t : Tube) : Nat := if t.v then 2 else 1

/-- Recompute the three lines from scratch (R580). -/
def Tube.recompute (cfg : Config) (t : Tube) : Tube :=
  { t with
    hirq := t.q && t.h4.available
    pirq := (t.i && t.p1.available) || (t.j && t.p4.available)
    pnmi := t.m && (decide (t.thr ≤ t.h2p3.count) || (cfg.tubeNmiOnP2hEmpty && t.p2h3.count == 0)) }

/-- The latch after the producer wrote (`UpdateLatchForWrite`, producer's side; R555). -/
def Latch.full (l : Latch) : Latch := { l with notFull := false }

/-- The latch after the consumer read (`UpdateLatchForRead`, producer's side; R555). -/
def Latch.free (l : Latch) : Latch := { l with notFull := true }

/-- The latch after the producer wrote (`UpdateLatchForWrite`, consumer's side; R555). -/
def Latch.offer (l : Latch) : Latch := { l with available := true }

/-- The latch after the consumer read (`UpdateLatchForRead`, consumer's side; R555). -/
def Latch.take (l : Latch) : Latch := { l with available := false }

/-- A status read (R176): `{available, not_full, low6}`. -/
def Latch.status (l : Latch) (low : BitVec 6) : Byte :=
  BitVec.ofBool l.available ++ BitVec.ofBool l.notFull ++ low

/-- FIFO clear, T (R581): the data bytes and `tstat` stay. -/
def Tube.clear (t : Tube) : Tube :=
  { t with
    h1 := {}, h2 := {}, h3 := {}, h4 := {}, p1 := {}, p2 := {}, p3 := {}, p4 := {}
    p2h1Wr := 0, p2h1Count := 0
    h2p3 := { t.h2p3 with count := 0 }, p2h3 := { t.p2h3 with count := 0 } }

/-! ### Registers 0, 2, 4, 6 -/

/-- Host read 0 (R552). -/
def Tube.hostRead0 (t : Tube) : Byte × Tube := (t.h1.status t.tstat, t)

/-- Parasite read 0 (R552). -/
def Tube.parasiteRead0 (t : Tube) : Byte × Tube := (t.p1.status t.tstat, t)

/-- Host write 0: set or clear the named bits, T clears the FIFOs, the lines are recomputed (R553). -/
def Tube.hostWrite0 (cfg : Config) (d : Byte) (t : Tube) : Tube :=
  let named : BitVec 6 := d.setWidth 6
  let u := { t with tstat := if bit d 7 then t.tstat ||| named else t.tstat &&& ~~~named }
  (if bit d 7 && bit d 6 then u.clear else u).recompute cfg

/-- Host read 2 (R554). -/
def Tube.hostRead2 (t : Tube) : Byte × Tube := (t.h2.status 0x3F, t)

/-- Parasite read 2 (R554). -/
def Tube.parasiteRead2 (t : Tube) : Byte × Tube := (t.p2.status 0x3F, t)

/-- Host read 4 (R554). -/
def Tube.hostRead4 (t : Tube) : Byte × Tube := (t.h3.status 0x3F, t)

/-- Parasite read 4 (R554). -/
def Tube.parasiteRead4 (t : Tube) : Byte × Tube := (t.p3.status 0x3F, t)

/-- Host read 6 (R554). -/
def Tube.hostRead6 (t : Tube) : Byte × Tube := (t.h4.status 0x3F, t)

/-- Parasite read 6 (R554). -/
def Tube.parasiteRead6 (t : Tube) : Byte × Tube := (t.p4.status 0x3F, t)

/-- A write that changes nothing (R583). -/
def Tube.ignoreWrite (_ : Byte) (t : Tube) : Tube := t

/-! ### Channel 1 -/

/-- The channel 1 p2h flags as functions of the count (R556). -/
def Tube.ringFlags (cfg : Config) (t : Tube) : Tube :=
  { t with
    h1 := { t.h1 with available := decide (0 < t.p2h1Count) }
    p1 := { t.p1 with notFull := decide (t.p2h1Count < cfg.tubeDepth) } }

/-- The ring byte `back` places before the write index, modulo the depth (R556, R558). -/
def Tube.ringByte (cfg : Config) (t : Tube) (back : Nat) : Byte :=
  t.p2h1.getD ((t.p2h1Wr + cfg.tubeDepth - back) % cfg.tubeDepth) 0

/-- Host write 1 (R557). -/
def Tube.hostWrite1 (cfg : Config) (d : Byte) (t : Tube) : Tube :=
  ({ t with h2p1 := d, h1 := t.h1.full, p1 := t.p1.offer } : Tube).recompute cfg

/-- Host read 1: the oldest byte of the ring, or the last one again when it is empty (R558). -/
def Tube.hostRead1 (cfg : Config) (t : Tube) : Byte × Tube :=
  let r :=
    if 0 < t.p2h1Count then (t.ringByte cfg t.p2h1Count, { t with p2h1Count := t.p2h1Count - 1 })
    else (t.ringByte cfg 1, t)
  (r.1, (r.2.ringFlags cfg).recompute cfg)

/-- Parasite write 1: a full ring drops the byte (R559). -/
def Tube.parasiteWrite1 (cfg : Config) (d : Byte) (t : Tube) : Tube :=
  let u :=
    if t.p2h1Count < cfg.tubeDepth then
      { t with
        p2h1 := t.p2h1.set t.p2h1Wr d
        p2h1Wr := (t.p2h1Wr + 1) % cfg.tubeDepth
        p2h1Count := t.p2h1Count + 1 }
    else t
  (u.ringFlags cfg).recompute cfg

/-- Parasite read 1 (R560). -/
def Tube.parasiteRead1 (cfg : Config) (t : Tube) : Byte × Tube :=
  (t.h2p1, ({ t with p1 := t.p1.take, h1 := t.h1.free } : Tube).recompute cfg)

/-! ### Channel 2 -/

/-- Host write 3 (R561). -/
def Tube.hostWrite3 (cfg : Config) (d : Byte) (t : Tube) : Tube :=
  ({ t with h2p2 := d, h2 := t.h2.full, p2 := t.p2.offer } : Tube).recompute cfg

/-- Host read 3 (R562). -/
def Tube.hostRead3 (cfg : Config) (t : Tube) : Byte × Tube :=
  (t.p2h2, ({ t with h2 := t.h2.take, p2 := t.p2.free } : Tube).recompute cfg)

/-- Parasite write 3 (R563). -/
def Tube.parasiteWrite3 (cfg : Config) (d : Byte) (t : Tube) : Tube :=
  ({ t with p2h2 := d, p2 := t.p2.full, h2 := t.h2.offer } : Tube).recompute cfg

/-- Parasite read 3 (R564). -/
def Tube.parasiteRead3 (cfg : Config) (t : Tube) : Byte × Tube :=
  (t.h2p2, ({ t with p2 := t.p2.take, h2 := t.h2.free } : Tube).recompute cfg)

/-! ### Channel 3 (R565, R566) -/

/-- One direction of channel 3 with its producer's and its consumer's latch. -/
structure Ch3 where
  pair : Pair
  producer : Latch
  consumer : Latch
deriving DecidableEq, Repr

/-- `ch3_write` (R566). -/
def Ch3.write (twoByte : Bool) (d : Byte) (c : Ch3) : Ch3 :=
  if twoByte then
    let p :=
      if c.pair.count = 0 then { c.pair with b0 := d, count := 1 }
      else if c.pair.count = 1 then { c.pair with b1 := d, count := 2 }
      else c.pair
    if p.count = 2 then { pair := p, consumer := c.consumer.offer, producer := c.producer.full }
    else { c with pair := p }
  else
    { pair := { c.pair with b0 := d, count := 1 }, consumer := c.consumer.offer, producer := c.producer.full }

/-- `ch3_read(dummy)` (R566): the sentinel and no change when the direction is empty (R586). -/
def Ch3.read (dummy : Byte) (c : Ch3) : Byte × Ch3 :=
  if c.pair.count = 0 then (dummy, c)
  else
    (c.pair.b0,
      { pair := { c.pair with b0 := c.pair.b1, count := c.pair.count - 1 }
        producer := c.producer.free
        consumer := if c.pair.count - 1 = 0 then c.consumer.take else c.consumer })

/-- The host-to-parasite direction of channel 3. -/
def Tube.down3 (t : Tube) : Ch3 := { pair := t.h2p3, producer := t.h3, consumer := t.p3 }

/-- The parasite-to-host direction of channel 3. -/
def Tube.up3 (t : Tube) : Ch3 := { pair := t.p2h3, producer := t.p3, consumer := t.h3 }

/-- The Tube with the host-to-parasite direction replaced. -/
def Tube.setDown3 (t : Tube) (c : Ch3) : Tube := { t with h2p3 := c.pair, h3 := c.producer, p3 := c.consumer }

/-- The Tube with the parasite-to-host direction replaced. -/
def Tube.setUp3 (t : Tube) (c : Ch3) : Tube := { t with p2h3 := c.pair, p3 := c.producer, h3 := c.consumer }

/-- Host write 5 (R567). -/
def Tube.hostWrite5 (cfg : Config) (d : Byte) (t : Tube) : Tube :=
  (t.setDown3 (t.down3.write t.v d)).recompute cfg

/-- Host read 5 (R568). -/
def Tube.hostRead5 (cfg : Config) (t : Tube) : Byte × Tube :=
  let r := t.up3.read cfg.tubeDummyHost
  (r.1, (t.setUp3 r.2).recompute cfg)

/-- Parasite write 5 (R569). -/
def Tube.parasiteWrite5 (cfg : Config) (d : Byte) (t : Tube) : Tube :=
  (t.setUp3 (t.up3.write t.v d)).recompute cfg

/-- Parasite read 5 (R570). -/
def Tube.parasiteRead5 (cfg : Config) (t : Tube) : Byte × Tube :=
  let r := t.down3.read cfg.tubeDummyParasite
  (r.1, (t.setDown3 r.2).recompute cfg)

/-! ### Channel 4 -/

/-- Host write 7 (R572). -/
def Tube.hostWrite7 (cfg : Config) (d : Byte) (t : Tube) : Tube :=
  ({ t with h2p4 := d, h4 := t.h4.full, p4 := t.p4.offer } : Tube).recompute cfg

/-- Host read 7 (R573). -/
def Tube.hostRead7 (cfg : Config) (t : Tube) : Byte × Tube :=
  (t.p2h4, ({ t with h4 := t.h4.take, p4 := t.p4.free } : Tube).recompute cfg)

/-- Parasite write 7 (R574). -/
def Tube.parasiteWrite7 (cfg : Config) (d : Byte) (t : Tube) : Tube :=
  ({ t with p2h4 := d, p4 := t.p4.full, h4 := t.h4.offer } : Tube).recompute cfg

/-- Parasite read 7 (R575). -/
def Tube.parasiteRead7 (cfg : Config) (t : Tube) : Byte × Tube :=
  (t.h2p4, ({ t with p4 := t.p4.take, h4 := t.h4.free } : Tube).recompute cfg)

/-! ### The register maps (R175) -/

/-- `RegRead(tube, r)` of the host side. -/
def Tube.hostRead (cfg : Config) (r : BitVec 3) (t : Tube) : Byte × Tube :=
  match r.toNat with
  | 0 => t.hostRead0
  | 1 => t.hostRead1 cfg
  | 2 => t.hostRead2
  | 3 => t.hostRead3 cfg
  | 4 => t.hostRead4
  | 5 => t.hostRead5 cfg
  | 6 => t.hostRead6
  | _ => t.hostRead7 cfg

/-- `RegWrite(tube, r, d)` of the host side. -/
def Tube.hostWrite (cfg : Config) (r : BitVec 3) (d : Byte) (t : Tube) : Tube :=
  match r.toNat with
  | 0 => t.hostWrite0 cfg d
  | 1 => t.hostWrite1 cfg d
  | 3 => t.hostWrite3 cfg d
  | 5 => t.hostWrite5 cfg d
  | 7 => t.hostWrite7 cfg d
  | _ => t.ignoreWrite d

/-- `RegRead(tube, r)` of the parasite side. -/
def Tube.parasiteRead (cfg : Config) (r : BitVec 3) (t : Tube) : Byte × Tube :=
  match r.toNat with
  | 0 => t.parasiteRead0
  | 1 => t.parasiteRead1 cfg
  | 2 => t.parasiteRead2
  | 3 => t.parasiteRead3 cfg
  | 4 => t.parasiteRead4
  | 5 => t.parasiteRead5 cfg
  | 6 => t.parasiteRead6
  | _ => t.parasiteRead7 cfg

/-- `RegWrite(tube, r, d)` of the parasite side. -/
def Tube.parasiteWrite (cfg : Config) (r : BitVec 3) (d : Byte) (t : Tube) : Tube :=
  match r.toNat with
  | 1 => t.parasiteWrite1 cfg d
  | 3 => t.parasiteWrite3 cfg d
  | 5 => t.parasiteWrite5 cfg d
  | 7 => t.parasiteWrite7 cfg d
  | _ => t.ignoreWrite d

/-- A parasite read with its byte delivered to the parasite (log entry 16). -/
def Tube.deliver (r : Byte × Tube) : Tube := { r.2 with pdata := r.1 }

/-- One access of the parasite (R551). -/
def Tube.parasiteAccess (cfg : Config) (t : Tube) : ParasiteAccess → Tube
  | .read r => Tube.deliver (t.parasiteRead cfg r)
  | .write r d => t.parasiteWrite cfg r d

/-- A run of the parasite's accesses, in order; while `prst` is 1 the parasite performs none (R582, D38). -/
def Tube.parasiteRun (cfg : Config) : List ParasiteAccess → Tube → Tube
  | [], t => t
  | a :: rest, t => Tube.parasiteRun cfg rest (if t.prst then t else t.parasiteAccess cfg a)

end Sys2Proof.Machine
end

