-- ==== Sys2Proof/Machine/Via.lean ====
section
/-! DEFINITION. The R6522 VIA (44_via.md): pins, the 16 register reads and 16 register writes, the leading and the
trailing edge, and reset. Each is a function of one instance. -/

namespace Sys2Proof.Machine

/-! ### Control fields (R34, R35, R405) -/

/-- Which port of a VIA. -/
inductive PortSel where
  | a
  | b
deriving DecidableEq, Repr

/-- The chosen port. -/
def Via.port (v : Via) : PortSel → Port
  | .a => v.a
  | .b => v.b

/-- The VIA with the chosen port replaced. -/
def Via.setPort (v : Via) (x : PortSel) (q : Port) : Via :=
  match x with
  | .a => { v with a := q }
  | .b => { v with b := q }

/-- `c1_pos(x)` (R405): the configured polarity of C1. -/
def Via.c1Pos (v : Via) : PortSel → Bool
  | .a => bit v.pcr 0
  | .b => bit v.pcr 4

/-- `c2_mode(x)` (R405): the three-bit PCR mode of C2. -/
def Via.c2Mode (v : Via) : PortSel → BitVec 3
  | .a => v.pcr.extractLsb' 1 3
  | .b => v.pcr.extractLsb' 5 3

/-- The port's latch-enable bit (R34, R405). -/
def Via.latchEnable (v : Via) : PortSel → Bool
  | .a => bit v.acr 0
  | .b => bit v.acr 1

/-- `C1bit(x)`: the IFR bit of C1 (R36, R405). -/
def c1Bit : PortSel → Nat
  | .a => 1
  | .b => 4

/-- `C2bit(x)`: the IFR bit of C2 (R36, R405). -/
def c2Bit : PortSel → Nat
  | .a => 0
  | .b => 3

/-- `mode & 5 == 1` (R406): the independent-interrupt input modes 1 and 3. -/
def independentC2 (m : BitVec 3) : Bool := m &&& 5 == 1

/-! ### Pins (R404) -/

/-- The pins of a port: outputs from `or`, inputs from the environment (R404). -/
def Port.drive (q : Port) : Byte := (q.or &&& q.ddr) ||| (q.ext &&& ~~~q.ddr)

/-- Recompute port A's pins (R404). -/
def Via.refreshA (v : Via) : Via := { v with a := { v.a with p := v.a.drive } }

/-- Recompute port B's pins; while `acr[7]` is 1, bit 7 is `t1_pb7` (R404). -/
def Via.refreshB (v : Via) : Via :=
  { v with b := { v.b with
      p := if bit v.acr 7 then setBit 8 v.b.drive 7 v.t1Pb7 else v.b.drive } }

/-- `port_in(x)` (R405). -/
def Via.portIn (v : Via) (x : PortSel) : Byte :=
  if v.latchEnable x then (v.port x).latch else (v.port x).p

/-- What a read of a port's data register returns before any PB7 override: output bits from `or`, the others from
`port_in` (R410, R412). -/
def Via.portValue (v : Via) (x : PortSel) : Byte :=
  ((v.port x).or &&& (v.port x).ddr) ||| (v.portIn x &&& ~~~(v.port x).ddr)

/-- C2 takes the environment's level while it is an input, PCR modes 0 to 3; in an output mode it keeps what the VIA drives
(R404). -/
def Port.followC2 (q : Port) (output : Bool) : Port := { q with c2 := if output then q.c2 else q.extC2 }

/-- The environment's levels on this VIA (R404): pins and C1 always, C2 in the input modes 0 to 3 only. -/
def Via.applyLines (v : Via) (l : ViaLines) : Via :=
  let a := ({ v.a with ext := l.extA, c1 := l.ca1, extC2 := l.ca2 } : Port).followC2 (bit v.pcr 3)
  let b := ({ v.b with ext := l.extB, c1 := l.cb1, extC2 := l.cb2 } : Port).followC2 (bit v.pcr 7)
  ({ v with a := a, b := b } : Via).refreshA.refreshB

/-! ### Flag and handshake helpers -/

/-- `clear_on_access(x)` (R406). -/
def Via.clearOnAccess (v : Via) (x : PortSel) : Via :=
  let f := setBit 7 v.ifr (c1Bit x) false
  { v with ifr := if independentC2 (v.c2Mode x) then f else setBit 7 f (c2Bit x) false }

/-- `c2_handshake(x)` (R407). -/
def Via.c2Handshake (cfg : Config) (v : Via) (x : PortSel) : Via :=
  if v.c2Mode x = 4 then v.setPort x { v.port x with c2 := false }
  else if v.c2Mode x = 5 then v.setPort x { v.port x with c2 := false, pulse := cfg.viaPulseLen }
  else v

/-- `t1_irq_clear()` (R408): suppressed in the cycle of a timeout. -/
def Via.t1IrqClear (v : Via) : Via :=
  if v.t1Timeout then v else { v with ifr := setBit 7 v.ifr 6 false }

/-- `ier & ifr & $7F` (R402). -/
def Via.mask (v : Via) : BitVec 7 := v.ier &&& v.ifr

/-- The VIA's IRQ source value: the mask last returned is not zero (R402, R610). -/
def Via.irq (v : Via) : Bool := v.irqMask != 0

/-! ### Register reads: the byte and the VIA after -/

/-- Read $0, port B data (R410). -/
def Via.readOrb (v : Via) : Byte × Via :=
  let d := v.portValue .b
  (if bit v.acr 7 then setBit 8 d 7 v.t1Pb7 else d, v.clearOnAccess .b)

/-- Read $1, port A data with handshake (R412). -/
def Via.readOra (cfg : Config) (v : Via) : Byte × Via :=
  (v.portValue .a, (v.clearOnAccess .a).c2Handshake cfg .a)

/-- Read $2 (R416). -/
def Via.readDdrb (v : Via) : Byte × Via := (v.b.ddr, v)

/-- Read $3 (R417). -/
def Via.readDdra (v : Via) : Byte × Via := (v.a.ddr, v)

/-- Read $4 (R420). -/
def Via.readT1cl (v : Via) : Byte × Via := (loByte v.t1, v.t1IrqClear)

/-- Read $5 (R422). -/
def Via.readT1ch (v : Via) : Byte × Via := (hiByte v.t1, v)

/-- Read $6 (R424). -/
def Via.readT1ll (v : Via) : Byte × Via := (v.t1ll, v)

/-- Read $7 (R425). -/
def Via.readT1lh (v : Via) : Byte × Via := (v.t1lh, v)

/-- Read $8 (R428). -/
def Via.readT2cl (v : Via) : Byte × Via := (loByte v.t2, { v with ifr := setBit 7 v.ifr 5 false })

/-- Read $9 (R429). -/
def Via.readT2ch (v : Via) : Byte × Via := (hiByte v.t2, v)

/-- Read $A (R431). -/
def Via.readSr (v : Via) : Byte × Via := (v.sr, v)

/-- Read $B (R432). -/
def Via.readAcr (v : Via) : Byte × Via := (v.acr, v)

/-- Read $C (R434). -/
def Via.readPcr (v : Via) : Byte × Via := (v.pcr, v)

/-- Read $D (R440): the seven flags, bit 7 set iff an enabled flag is set. -/
def Via.readIfr (v : Via) : Byte × Via :=
  (setBit 8 (v.ifr.setWidth 8) 7 (v.ier &&& v.ifr != 0), v)

/-- Read $E (R442): bit 7 reads as 1. -/
def Via.readIer (v : Via) : Byte × Via := (v.ier.setWidth 8 ||| 0x80, v)

/-- Read $F (R413): the value of $1; the handshake only if `VIA_REGF_HANDSHAKE`. -/
def Via.readOraF (cfg : Config) (v : Via) : Byte × Via :=
  (v.portValue .a, if cfg.viaRegFHandshake then (v.clearOnAccess .a).c2Handshake cfg .a else v)

/-! ### Register writes -/

/-- Write $0, port B data (R411). -/
def Via.writeOrb (cfg : Config) (d : Byte) (v : Via) : Via :=
  ((({ v with b := { v.b with or := d } } : Via).refreshB).clearOnAccess .b).c2Handshake cfg .b

/-- Write $1, port A data with handshake (R414). -/
def Via.writeOra (cfg : Config) (d : Byte) (v : Via) : Via :=
  ((({ v with a := { v.a with or := d } } : Via).refreshA).clearOnAccess .a).c2Handshake cfg .a

/-- Write $2 (R416). -/
def Via.writeDdrb (d : Byte) (v : Via) : Via := ({ v with b := { v.b with ddr := d } } : Via).refreshB

/-- Write $3 (R417). -/
def Via.writeDdra (d : Byte) (v : Via) : Via := ({ v with a := { v.a with ddr := d } } : Via).refreshA

/-- Write $4: the low latch only (R421). -/
def Via.writeT1cl (d : Byte) (v : Via) : Via := { v with t1ll := d }

/-- Write $5: start T1 (R423); the PB7 level changes with `t1_pb7` (R404). -/
def Via.writeT1ch (d : Byte) (v : Via) : Via :=
  ({ v with t1lh := d, t1Pending := true, t1Reload := true, t1Pb7 := false } : Via).refreshB.t1IrqClear

/-- Write $6 (R424). -/
def Via.writeT1ll (d : Byte) (v : Via) : Via := { v with t1ll := d }

/-- Write $7 (R426). -/
def Via.writeT1lh (d : Byte) (v : Via) : Via := ({ v with t1lh := d } : Via).t1IrqClear

/-- Write $8: the low latch only (R427). -/
def Via.writeT2cl (d : Byte) (v : Via) : Via := { v with t2ll := d }

/-- Write $9: start T2 (R430). -/
def Via.writeT2ch (d : Byte) (v : Via) : Via :=
  { v with t2lh := d, t2Reload := true, t2Pending := true, ifr := setBit 7 v.ifr 5 false }

/-- Write $A (R431). -/
def Via.writeSr (d : Byte) (v : Via) : Via := { v with sr := d }

/-- Write $B (R433): leaving continuous mode cancels the pending T1 interrupt. -/
def Via.writeAcr (d : Byte) (v : Via) : Via :=
  ({ v with acr := d, t1Pending := v.t1Pending && !(bit v.acr 6 && !bit d 6) } : Via).refreshB

/-- Write $C (R434); a C2 that becomes an input takes the environment's level at once (R404). -/
def Via.writePcr (d : Byte) (v : Via) : Via :=
  { v with pcr := d, a := v.a.followC2 (bit d 3), b := v.b.followC2 (bit d 7) }

/-- Write $D: each 1 bit clears its flag (R441). -/
def Via.writeIfr (d : Byte) (v : Via) : Via := { v with ifr := v.ifr &&& ~~~(d.setWidth 7) }

/-- Write $E: bit 7 chooses set or clear (R443). -/
def Via.writeIer (d : Byte) (v : Via) : Via :=
  { v with ier := if bit d 7 then v.ier ||| d.setWidth 7 else v.ier &&& ~~~(d.setWidth 7) }

/-- Write $F (R415): as $1, the handshake only if `VIA_REGF_HANDSHAKE`. -/
def Via.writeOraF (cfg : Config) (d : Byte) (v : Via) : Via :=
  let w := ({ v with a := { v.a with or := d } } : Via).refreshA
  if cfg.viaRegFHandshake then (w.clearOnAccess .a).c2Handshake cfg .a else w

/-- `RegRead(via, r)` (R160, R403). -/
def Via.regRead (cfg : Config) (r : BitVec 4) (v : Via) : Byte × Via :=
  match r.toNat with
  | 0x0 => v.readOrb
  | 0x1 => v.readOra cfg
  | 0x2 => v.readDdrb
  | 0x3 => v.readDdra
  | 0x4 => v.readT1cl
  | 0x5 => v.readT1ch
  | 0x6 => v.readT1ll
  | 0x7 => v.readT1lh
  | 0x8 => v.readT2cl
  | 0x9 => v.readT2ch
  | 0xA => v.readSr
  | 0xB => v.readAcr
  | 0xC => v.readPcr
  | 0xD => v.readIfr
  | 0xE => v.readIer
  | _ => v.readOraF cfg

/-- `RegWrite(via, r, d)` (R160, R403). -/
def Via.regWrite (cfg : Config) (r : BitVec 4) (d : Byte) (v : Via) : Via :=
  match r.toNat with
  | 0x0 => v.writeOrb cfg d
  | 0x1 => v.writeOra cfg d
  | 0x2 => v.writeDdrb d
  | 0x3 => v.writeDdra d
  | 0x4 => v.writeT1cl d
  | 0x5 => v.writeT1ch d
  | 0x6 => v.writeT1ll d
  | 0x7 => v.writeT1lh d
  | 0x8 => v.writeT2cl d
  | 0x9 => v.writeT2ch d
  | 0xA => v.writeSr d
  | 0xB => v.writeAcr d
  | 0xC => v.writePcr d
  | 0xD => v.writeIfr d
  | 0xE => v.writeIer d
  | _ => v.writeOraF cfg d

/-! ### Leading edge -/

/-- The T1 part of R450: a timeout of the previous trailing edge raises the flag, re-arms in continuous mode only, and
toggles PB7. -/
def Via.leadT1 (v : Via) : Via :=
  if v.t1Timeout && v.t1Pending then
    ({ v with ifr := setBit 7 v.ifr 6 true, t1Pending := bit v.acr 6, t1Pb7 := !v.t1Pb7 } : Via).refreshB
  else v

/-- The T2 part of R450. -/
def Via.leadT2 (v : Via) : Via :=
  if v.t2Timeout && v.t2Pending then { v with ifr := setBit 7 v.ifr 5 true, t2Pending := false } else v

/-- PB6 sampling for T2 pulse counting (R451). -/
def Via.leadPb6 (v : Via) : Via :=
  { v with t2Count := v.t2Count || (bit v.acr 5 && v.oldPb6 && !bit v.b.p 6), oldPb6 := bit v.b.p 6 }

/-- Store the mask an entry point returns (R402). -/
def Via.returnMask (v : Via) : Via := { v with irqMask := v.mask }

/-- `UpdatePhi2LeadingEdge()` (R450). -/
def Via.leadingEdge (v : Via) : Via := v.leadT1.leadT2.leadPb6.returnMask

/-! ### Trailing edge -/

/-- The active C1 edge of a port (R452). -/
def Via.c1Active (v : Via) (x : PortSel) : Bool :=
  (v.port x).c1 != (v.port x).oldC1 && (v.port x).c1 == v.c1Pos x

/-- C1 edge detection, input latching and handshake release (R452). -/
def Via.trailC1 (v : Via) (x : PortSel) : Via :=
  if v.c1Active x then
    ({ v with ifr := setBit 7 v.ifr (c1Bit x) true } : Via).setPort x
      { v.port x with
        latch := if v.latchEnable x then (v.port x).p else (v.port x).latch
        c2 := if v.c2Mode x = 4 then true else (v.port x).c2 }
  else v

/-- The C2 flag condition of the input modes (R453): the edge the mode names. -/
def Via.c2Active (v : Via) (x : PortSel) : Bool :=
  match (v.c2Mode x).toNat with
  | 0 => (v.port x).oldC2 && !(v.port x).c2
  | 1 => (v.port x).oldC2 && !(v.port x).c2
  | 2 => !(v.port x).oldC2 && (v.port x).c2
  | 3 => !(v.port x).oldC2 && (v.port x).c2
  | _ => false

/-- The port after the C2 rule of its mode: pulse countdown in mode 5, fixed levels in modes 6 and 7, and the countdown
abandoned in every mode but 5 (R453, R454). -/
def Port.trailC2 (q : Port) (mode : BitVec 3) : Port :=
  match mode.toNat with
  | 5 =>
    if q.pulse = 0 then q
    else { q with pulse := q.pulse - 1, c2 := if q.pulse - 1 = 0 then true else q.c2 }
  | 6 => { q with pulse := 0, c2 := false }
  | 7 => { q with pulse := 0, c2 := true }
  | _ => { q with pulse := 0 }

/-- C2 per mode (R453, R454). -/
def Via.trailC2 (v : Via) (x : PortSel) : Via :=
  ({ v with ifr := if v.c2Active x then setBit 7 v.ifr (c2Bit x) true else v.ifr } : Via).setPort x
    ((v.port x).trailC2 (v.c2Mode x))

/-- Shadow update (R455). -/
def Via.trailShadow (v : Via) : Via :=
  { v with
    a := { v.a with oldC1 := v.a.c1, oldC2 := v.a.c2 }
    b := { v.b with oldC1 := v.b.c1, oldC2 := v.b.c2 } }

/-- T1 count (R456). -/
def Via.trailT1 (v : Via) : Via :=
  if v.t1Reload then { v with t1 := mkWord v.t1lh v.t1ll, t1Reload := false, t1Timeout := false }
  else { v with t1 := v.t1 - 1, t1Timeout := v.t1 == 0, t1Reload := v.t1 == 0 }

/-- T2 count (R457). -/
def Via.trailT2 (v : Via) : Via :=
  if v.t2Reload then { v with t2 := mkWord v.t2lh v.t2ll, t2Reload := false, t2Timeout := false }
  else if !bit v.acr 5 || v.t2Count then
    { v with t2 := v.t2 - 1, t2Timeout := v.t2 == 0, t2Count := false }
  else { v with t2Timeout := false }

/-- `UpdatePhi2TrailingEdge()` (R459). -/
def Via.trailingEdge (v : Via) : Via :=
  ((((v.trailC1 .a).trailC1 .b).trailC2 .a).trailC2 .b).trailShadow.trailT1.trailT2.returnMask

/-! ### Reset (R40, R653) -/

/-- `Reset()` (R40) under the environment's levels: the identity is preserved, the timer counters and latches, whose
values the spec leaves unspecified, keep what they held (R653). -/
def Via.resetWith (v : Via) (l : ViaLines) : Via :=
  { id := v.id, t1 := v.t1, t1ll := v.t1ll, t1lh := v.t1lh, t2 := v.t2, t2ll := v.t2ll, t2lh := v.t2lh
    a := { ext := l.extA, p := l.extA, c1 := l.ca1, c2 := l.ca2, extC2 := l.ca2, oldC1 := l.ca1, oldC2 := l.ca2 }
    b := { ext := l.extB, p := l.extB, c1 := l.cb1, c2 := l.cb2, extC2 := l.cb2, oldC1 := l.cb1, oldC2 := l.cb2 }
    oldPb6 := bit l.extB 6 }

end Sys2Proof.Machine
end

