-- ==== Sys2Proof/Machine/Ops.lean ====
section
/-! DEFINITION. The named operations over memory, the bus, one system cycle, the registers and the stack; the taking of an
interrupt or BRK as one shared operation, the reset sequence, and the return beside them. -/

namespace Sys2Proof.Machine

/-! ### Memory (R100, R651) -/

/-- What an address that `mem` does not list reads as. The spec leaves RAM after power-on to `draw(8)` (R651); the model
reads $00: DESIGN CHOICE, log entry 2. -/
def Memory.blank : Byte := 0

/-- The byte at an address. -/
def Memory.read : List Host.Cell → Nat → Byte
  | [], _ => Memory.blank
  | (b, w) :: rest, a => if a = b then w else Memory.read rest a

/-- Store a byte, keeping the canonical form: a blank byte removes the entry. -/
def Memory.write : List Host.Cell → Nat → Byte → List Host.Cell
  | [], a, v => if v = Memory.blank then [] else [(a, v)]
  | (b, w) :: rest, a, v =>
    if a < b then (if v = Memory.blank then (b, w) :: rest else (a, v) :: (b, w) :: rest)
    else if a = b then (if v = Memory.blank then rest else (a, v) :: rest)
    else (b, w) :: Memory.write rest a v

/-- The canonical form from a lower bound on: addresses strictly rising and inside the address space, no blank entry. -/
def Memory.wfFrom : Nat → List Host.Cell → Bool
  | _, [] => true
  | low, (b, w) :: rest => decide (low ≤ b) && decide (b < 65536) && w != Memory.blank && Memory.wfFrom (b + 1) rest

/-- The canonical form. -/
def Memory.wf (m : List Host.Cell) : Bool := Memory.wfFrom 0 m

/-- The memory byte at an address, without a bus cycle. -/
def State.peek (s : State) (a : Word) : Byte := Memory.read s.mem a.toNat

/-! ### Platform address decode (R101 to R103; parameters, log entry 9) -/

/-- What answers an address. -/
inductive Target where
  | sysVia
  | usrVia
  | fdc
  | tube
  | unmapped
  | rom
  | ram
deriving DecidableEq, Repr

/-- The address lies in the window of the given base and size. -/
def inWindow (base : Word) (size : Nat) (a : Word) : Bool :=
  decide (base.toNat ≤ a.toNat) && decide (a.toNat < base.toNat + size)

/-- The address lies in one of the ranges. -/
def inRanges (rs : List (Nat × Nat)) (a : Word) : Bool :=
  rs.any fun r => decide (r.1 ≤ a.toNat) && decide (a.toNat ≤ r.2)

/-- The agent that owns an address. -/
def target (cfg : Config) (a : Word) : Target :=
  if inWindow cfg.sysViaBase cfg.viaWindow a then .sysVia
  else if inWindow cfg.usrViaBase cfg.viaWindow a then .usrVia
  else if inWindow cfg.fdcBase cfg.fdcWindow a then .fdc
  else if inWindow cfg.tubeBase cfg.tubeWindow a then .tube
  else if inRanges cfg.unmapped a then .unmapped
  else if inRanges cfg.rom a then .rom
  else .ram

/-- `r = addr[3:0]` (R160). -/
def viaReg (a : Word) : BitVec 4 := a.setWidth 4

/-- `r = addr[1:0]` (R165). -/
def fdcReg (a : Word) : BitVec 2 := a.setWidth 2

/-- `r = addr[2:0]` (R175). -/
def tubeReg (a : Word) : BitVec 3 := a.setWidth 3

/-- The first address at or after a device's base whose low bits, under the mask, are the register number: where the CPU
finds that register. -/
def regAddr (base mask r : Word) : Word := base + ((r - base) &&& mask)

/-! ### State access -/

/-- The CPU replaced. -/
def State.setCpu (s : State) (c : Cpu) : State := { s with cpu := c }

/-- One VIA. -/
def State.via (s : State) : ViaId → Via
  | .system => s.sysVia
  | .user => s.usrVia

/-- One VIA replaced. -/
def State.setVia (s : State) (id : ViaId) (v : Via) : State :=
  match id with
  | .system => { s with sysVia := v }
  | .user => { s with usrVia := v }

/-- The base address of a VIA. -/
def viaBase (cfg : Config) : ViaId → Word
  | .system => cfg.sysViaBase
  | .user => cfg.usrViaBase

/-- Put one access on the bus latches (R25, R101, R102) and into the step's list of cycles (R26). -/
def State.latch (s : State) (a : Word) (v : Byte) (read : Bool) : State :=
  { s with cpu := { s.cpu with abus := a, dbus := v, read := read }, bus := s.bus ++ [⟨a, v, read⟩] }

/-- The outcome of a device operation that may refuse. -/
def ofExcept (r : Except Refusal State) : Host.Outcome State Fault Refusal :=
  match r with
  | .ok s => .next s
  | .error e => .refused e

/-- Go on with a next state; keep a fault or a refusal. -/
def andThen (o : Host.Outcome State Fault Refusal) (k : State → Host.Outcome State Fault Refusal) :
    Host.Outcome State Fault Refusal :=
  match o with
  | .next s => k s
  | .fault r => .fault r
  | .refused r => .refused r

/-! ### Bus accesses (R101, R102) -/

/-- The byte the environment puts on the bus in a read of `a`, and the state after the device's side effects (R101). -/
def busValue (a : Word) (s : State) : Byte × State :=
  match target s.cfg a with
  | .sysVia => let r := s.sysVia.regRead s.cfg (viaReg a); (r.1, { s with sysVia := r.2 })
  | .usrVia => let r := s.usrVia.regRead s.cfg (viaReg a); (r.1, { s with usrVia := r.2 })
  | .fdc => let r := s.fdc.regRead s.cfg (fdcReg a); (r.1, { s with fdc := r.2 })
  | .tube => let r := s.tube.hostRead s.cfg (tubeReg a); (r.1, { s with tube := r.2 })
  | .unmapped => (Config.unmappedByte s.freeReads a, { s with freeReads := s.freeReads + 1 })
  | .rom => (s.peek a, s)
  | .ram => (s.peek a, s)

/-- `MemRead(addr, 1)`, the access alone (R101). -/
def busRead (a : Word) (s : State) : Byte × State :=
  let r := busValue a s
  (r.1, r.2.latch a r.1 true)

/-- The effect of a write of `v` to `a` on whatever owns the address (R102). -/
def busStore (a : Word) (v : Byte) (s : State) : Except Refusal State :=
  match target s.cfg a with
  | .sysVia => .ok { s with sysVia := s.sysVia.regWrite s.cfg (viaReg a) v }
  | .usrVia => .ok { s with usrVia := s.usrVia.regWrite s.cfg (viaReg a) v }
  | .fdc =>
    match s.fdc.regWrite s.cfg (fdcReg a) v with
    | .ok f => .ok { s with fdc := f }
    | .error e => .error e
  | .tube => .ok { s with tube := s.tube.hostWrite s.cfg (tubeReg a) v }
  | .unmapped => .ok s
  | .rom => .ok s
  | .ram => .ok { s with mem := Memory.write s.mem a.toNat v }

/-- `MemWrite(addr, 1, v)`, the access alone (R102). -/
def busWrite (a : Word) (v : Byte) (s : State) : Except Refusal State :=
  match busStore a v s with
  | .ok t => .ok (t.latch a v false)
  | .error e => .error e

/-! ### One system cycle (R114) -/

/-- Take the environment's input of this cycle: the next entry of the script, or the levels held (log entry 7). -/
def State.takeInput (s : State) : State :=
  match s.script with
  | [] => s
  | e :: _ =>
    { s with
      env := e.levels
      cpu := { s.cpu with resetReq := s.cpu.resetReq || e.resetReq }
      fdc := match e.drive with
        | some d => { s.fdc with drive := { d with calls := s.fdc.drive.calls } }
        | none => s.fdc }

/-- Put the levels on the VIAs (R404) and the density on the controller (R491). -/
def State.applyLevels (s : State) : State :=
  { s with
    sysVia := s.sysVia.applyLines s.env.sys
    usrVia := s.usrVia.applyLines s.env.usr
    fdc := { s.fdc with density := s.env.density } }

/-- Step (1) of R114: the leading edge of the System VIA, then of the User VIA. -/
def State.leadingEdges (s : State) : State :=
  { s with sysVia := s.sysVia.leadingEdge, usrVia := s.usrVia.leadingEdge }

/-- A run of the parasite's accesses (R115). -/
def State.parasiteRun (as : List ParasiteAccess) (s : State) : State :=
  { s with tube := Tube.parasiteRun s.cfg as s.tube }

/-- The parasite's accesses of this cycle that come before the CPU's (R115). -/
def State.parasiteBefore (s : State) : State :=
  match s.script with
  | [] => s
  | e :: _ => s.parasiteRun e.parasiteBefore

/-- The parasite's accesses of this cycle that come after the CPU's (R115), after which the script moves on. -/
def State.parasiteAfter (s : State) : State :=
  match s.script with
  | [] => s
  | e :: rest => { s.parasiteRun e.parasiteAfter with script := rest }

/-- Step (3) of R114: the trailing edge of the System VIA, then of the User VIA. -/
def State.trailingEdges (s : State) : State :=
  { s with sysVia := s.sysVia.trailingEdge, usrVia := s.usrVia.trailingEdge }

/-- Step (4) of R114: the FDC updates that fall into this cycle (R481; ratio, log entry 10). -/
def State.fdcUpdates (s : State) : State :=
  { s with
    fdc := Fdc.updates s.cfg ((s.fdcPhase + s.cfg.fdcUpdatesNum) / s.cfg.fdcUpdatesDen) s.fdc
    fdcPhase := (s.fdcPhase + s.cfg.fdcUpdatesNum) % s.cfg.fdcUpdatesDen }

/-- One agent's step of a system cycle (R114). -/
def State.runPhase (p : AgentPhase) (s : State) : State :=
  match p with
  | .viaLeading => s.leadingEdges
  | .viaTrailing => s.trailingEdges
  | .fdcUpdates => s.fdcUpdates

/-- The agents' steps in the given order. -/
def State.runPhases : List AgentPhase → State → State
  | [], s => s
  | p :: rest, s => State.runPhases rest (s.runPhase p)

/-- The FDC's two pins ORed (R611). -/
def Fdc.request (f : Fdc) : Bool := f.intrq || f.drq

/-- `irq_line` as the OR of its sources (R613). -/
def State.irqSources (s : State) : Bool :=
  s.sysVia.irq || s.usrVia.irq || s.tube.hirq || (s.cfg.fdcIrqWiring == .irq && s.fdc.request) || s.env.otherIrq

/-- `nmi_line` as the OR of its sources (R613). -/
def State.nmiSources (s : State) : Bool :=
  (s.cfg.fdcIrqWiring == .nmi && s.fdc.request) || s.env.otherNmi

/-- Step (5) of R114: the lines, and the NMI edge latch (R603). -/
def State.updateLines (s : State) : State :=
  { s with cpu := { s.cpu with
      irqLine := s.irqSources
      nmiPending := s.cpu.nmiPending || (!s.cpu.nmiLine && s.nmiSources)
      nmiLine := s.nmiSources } }

/-- The sequencer's cycle index moves on (R26). -/
def State.countCycle (s : State) : State := { s with cpu := { s.cpu with tcycle := s.cpu.tcycle + 1 } }

/-- A system cycle up to the CPU's access: the environment's levels and those of the parasite's accesses that come first,
then the steps that R114 puts before the access. No agent's step reads or writes the Tube, so the parasite's two places
in a cycle, before the CPU's access and after it, give every interleaving that R115 allows. -/
def State.beginCycle (s : State) : State :=
  State.runPhases s.cfg.agentOrder.before s.takeInput.applyLevels.parasiteBefore

/-- A system cycle from the CPU's access on: the rest of the parasite's accesses, the steps that R114 puts after the
access, and the lines. -/
def State.endCycle (s : State) : State :=
  (State.runPhases s.cfg.agentOrder.after s.parasiteAfter).updateLines.countCycle

/-- One read cycle of the CPU: a whole system cycle around `MemRead(addr, 1)`. -/
def readCycle (a : Word) (s : State) : Byte × State :=
  let r := busRead a s.beginCycle
  (r.1, r.2.endCycle)

/-- A read cycle whose byte is discarded (R110). -/
def discardCycle (a : Word) (s : State) : State := (readCycle a s).2

/-- One write cycle of the CPU: a whole system cycle around `MemWrite(addr, 1, v)`. -/
def writeCycle (a : Word) (v : Byte) (s : State) : Host.Outcome State Fault Refusal :=
  match busWrite a v s.beginCycle with
  | .ok t => .next t.endCycle
  | .error e => .refused e

/-! ### Registers -/

/-- Write A. -/
def State.setA (s : State) (v : Byte) : State := s.setCpu { s.cpu with a := v }

/-- Write X. -/
def State.setX (s : State) (v : Byte) : State := s.setCpu { s.cpu with x := v }

/-- Write Y. -/
def State.setY (s : State) (v : Byte) : State := s.setCpu { s.cpu with y := v }

/-- Write S. -/
def State.setS (s : State) (v : Byte) : State := s.setCpu { s.cpu with s := v }

/-- Write PC. -/
def State.setPc (s : State) (w : Word) : State := s.setCpu { s.cpu with pc := w }

/-- Write the flags. -/
def State.setP (s : State) (p : Flags) : State := s.setCpu { s.cpu with p := p }

/-- Load the opcode latch (R24). -/
def State.setIr (s : State) (v : Byte) : State := s.setCpu { s.cpu with ir := v }

/-- Load the address latch and say whether its carry is still owed (R26). -/
def State.setAd (s : State) (w : Word) (fix : Bool) : State := s.setCpu { s.cpu with ad := w, fix := fix }

/-- Load the zero-page pointer latch (R26). -/
def State.setPtr (s : State) (v : Byte) : State := s.setCpu { s.cpu with ptr := v }

/-- Load the operand latch (R26). -/
def State.setOpnd (s : State) (v : Byte) : State := s.setCpu { s.cpu with opnd := v }

/-- What the coming cycles belong to (R26). -/
def State.setSeq (s : State) (q : SeqKind) : State := s.setCpu { s.cpu with seq := q }

/-- `PC+`. -/
def State.incPc (s : State) : State := s.setPc (s.cpu.pc + 1)

/-- The instruction boundary (R192, R28): cycle 1 of an instruction comes next. -/
def State.boundary (s : State) : State :=
  s.setCpu { s.cpu with seq := .instr, tcycle := 1, fix := false }

/-- The instruction or sequence ends. -/
def finish (s : State) : Host.Outcome State Fault Refusal := .next s.boundary

/-! ### Stack (R10) -/

/-- `STACK_PAGE + S`: `$0100 + S`. -/
def stackAddr (s : State) : Word := s.cfg.stackPage + zext16 s.cpu.s

/-- `push(v)` in one write cycle (R10): the write, then `S - 1`. -/
def push (v : Byte) (s : State) : Host.Outcome State Fault Refusal :=
  andThen (writeCycle (stackAddr s) v s) fun t => .next (t.setS (t.cpu.s - 1))

/-- A discarded read at the stack, then `S - 1`: a suppressed push of the reset sequence (R608). -/
def suppressedPush (s : State) : State :=
  let t := discardCycle (stackAddr s) s
  t.setS (t.cpu.s - 1)

/-- The discarded stack read with which every pull begins, then `S + 1` (R264, R353, R354). -/
def pullStart (s : State) : State :=
  let t := discardCycle (stackAddr s) s
  t.setS (t.cpu.s + 1)

/-- A pull's read cycle after `S` was incremented. -/
def pullRead (s : State) : Byte × State := readCycle (stackAddr s) s

/-- A pull's read cycle, then `S + 1` for the next one (R353, R354). -/
def pullNext (s : State) : Byte × State :=
  let r := pullRead s
  (r.1, r.2.setS (r.2.cpu.s + 1))

/-! ### Taking an interrupt or BRK, and returning (R601, R606 to R609, R354) -/

/-- Cycles c6 and c7 of every entry: the vector's low byte, `P.I <- 1`, its high byte, PC (R606 to R608, R355). -/
def enterVector (vector : Word) (s : State) : Host.Outcome State Fault Refusal :=
  let lo := readCycle vector s
  let t := (lo.2.setOpnd lo.1).setP { lo.2.cpu.p with i := true }
  let hi := readCycle (vector + 1) t
  finish (hi.2.setPc (mkWord hi.1 lo.1))

/-- Cycles c3 to c7 of IRQ, NMI and BRK: push PCH, PCL and `PByte(brk)`, then the vector (R606, R607, R355). -/
def enterInterrupt (brk : Bool) (vector : Word) (s : State) : Host.Outcome State Fault Refusal :=
  andThen (push (hiByte s.cpu.pc) s) fun t =>
  andThen (push (loByte t.cpu.pc) t) fun u =>
  andThen (push (u.cpu.p.toByte brk) u) fun w =>
  enterVector vector w

/-- `IrqSeq` (R606). -/
def irqSeq (s : State) : Host.Outcome State Fault Refusal :=
  let t := (s.setSeq .irqSeq).setIr 0
  let t := discardCycle t.cpu.pc t
  let t := discardCycle t.cpu.pc t
  enterInterrupt false t.cfg.vecIrq t

/-- `NmiSeq` (R607): `nmi_pending` is cleared at c1. -/
def nmiSeq (s : State) : Host.Outcome State Fault Refusal :=
  let t := (s.setSeq .nmiSeq).setIr 0
  let t := t.setCpu { t.cpu with nmiPending := false }
  let t := discardCycle t.cpu.pc t
  let t := discardCycle t.cpu.pc t
  enterInterrupt false t.cfg.vecNmi t

/-- The devices' resets, which come before the first cycle of the reset sequence (R650). -/
def State.resetDevices (s : State) : State :=
  { s with
    sysVia := s.sysVia.resetWith s.env.sys
    usrVia := s.usrVia.resetWith s.env.usr
    fdc := s.fdc.reset
    tube := Tube.initial s.cfg.tubeDepth }

/-- `ResetSeq` (R608, R650): the devices first, then the interrupt entry with its pushes suppressed. -/
def resetSeq (s : State) : Host.Outcome State Fault Refusal :=
  let t := (s.resetDevices.setSeq .resetSeq).setIr 0
  let t := t.setCpu { t.cpu with resetReq := false, nmiPending := false }
  let t := discardCycle t.cpu.pc t
  let t := discardCycle t.cpu.pc t
  enterVector t.cfg.vecReset (suppressedPush (suppressedPush (suppressedPush t)))

/-- Cycles c3 to c6 of RTI (R354): pull P, PC low, PC high; PC is exactly the pulled word. -/
def returnFromInterrupt (s : State) : Host.Outcome State Fault Refusal :=
  let p := pullNext (pullStart s)
  let lo := pullNext (p.2.setP (Flags.ofByte p.1))
  let hi := pullRead lo.2
  finish (hi.2.setPc (mkWord hi.1 lo.1))

end Sys2Proof.Machine
end

