-- ==== Sys2Proof/Machine/Operands.lean ====
section
/-! DEFINITION. The addressing modes (R200 to R212) and the class tails (R214 to R216): every operand form with the bus cycles
that follow the operand bytes. An instruction's operand bytes are fetched before its meaning runs (Machine/Fetch.lean), so
PC is past them here and the next cycle is the first one after them. -/

namespace Sys2Proof.Machine

/-- A memory operand: the addressing mode with its operand bytes (R141). -/
inductive Operand where
  | zp (b : Byte)
  | zpx (b : Byte)
  | zpy (b : Byte)
  | abs (w : Word)
  | absx (w : Word)
  | absy (w : Word)
  | indx (b : Byte)
  | indy (b : Byte)
deriving DecidableEq, Repr

/-! ### Effective addresses -/

/-- `EAu` (R207): the indexed address with its page left uncorrected. -/
def uncorrected (base : Word) (index : Byte) : Word := mkWord (hiByte base) (loByte base + index)

/-- `EA` of an indexed mode (R207, R211): a 16-bit sum. -/
def corrected (base : Word) (index : Byte) : Word := base + zext16 index

/-- `cross` (R207): the low-byte sum carries. -/
def crosses (base : Word) (index : Byte) : Bool := decide (256 ≤ (loByte base).toNat + index.toNat)

/-- The cycle at `EAu` of the indexed modes: always for writes and RMW, only on a page crossing for reads (R207, R211,
R215). -/
def indexedAddr (always : Bool) (base : Word) (index : Byte) (s : State) : Word × State :=
  if always || crosses base index then
    (corrected base index,
      (discardCycle (uncorrected base index) (s.setAd (uncorrected base index) (crosses base index))).setAd
        (corrected base index) false)
  else (corrected base index, s.setAd (corrected base index) false)

/-- The zero-page indexed modes (R204, R205): a discarded read at the base, then the sum inside page 0. -/
def zpIndexedAddr (b : Byte) (index : Byte) (s : State) : Word × State :=
  (zext16 (b + index), (discardCycle (zext16 b) s).setAd (zext16 (b + index)) false)

/-- Two read cycles for a pointer in page 0, its high byte at the next zero-page address (R210, R211). -/
def zpPointer (p : Byte) (s : State) : Word × State :=
  let lo := readCycle (zext16 p) (s.setPtr p)
  let hi := readCycle (zext16 (p + 1)) lo.2
  (mkWord hi.1 lo.1, hi.2)

/-- The effective address of an operand and the state after the cycles that produce it; `always` is set for the classes
that take the cycle at `EAu` whether or not a page is crossed. -/
def effAddr (always : Bool) (m : Operand) (s : State) : Word × State :=
  match m with
  | .zp b => (zext16 b, s.setAd (zext16 b) false)
  | .zpx b => zpIndexedAddr b s.cpu.x s
  | .zpy b => zpIndexedAddr b s.cpu.y s
  | .abs w => (w, s.setAd w false)
  | .absx w => indexedAddr always w s.cpu.x s
  | .absy w => indexedAddr always w s.cpu.y s
  | .indx b =>
    let r := zpPointer (b + s.cpu.x) (discardCycle (zext16 b) (s.setPtr b))
    (r.1, r.2.setAd r.1 false)
  | .indy b =>
    let r := zpPointer b s
    indexedAddr always r.1 s.cpu.y r.2

/-! ### Class tails -/

/-- The Read class (R214): the operand byte and the state after the last cycle. -/
def readOperand (m : Operand) (s : State) : Byte × State :=
  let ea := effAddr false m s
  let r := readCycle ea.1 ea.2
  (r.1, r.2.setOpnd r.1)

/-- A Read-class instruction: its operation on the byte read (R214). -/
def readOp (m : Operand) (op : Byte → State → State) (s : State) : Host.Outcome State Fault Refusal :=
  let r := readOperand m s
  finish (op r.1 r.2)

/-- An immediate instruction: its operation on the operand byte, with no further cycle (R202). -/
def immOp (v : Byte) (op : Byte → State → State) (s : State) : Host.Outcome State Fault Refusal :=
  finish (op v (s.setOpnd v))

/-- A Write-class instruction storing `v` (R215). -/
def storeOp (m : Operand) (v : Byte) (s : State) : Host.Outcome State Fault Refusal :=
  let ea := effAddr true m s
  andThen (writeCycle ea.1 v ea.2) finish

/-- A read-modify-write instruction (R216): read, write back unmodified, write the result with its flags. -/
def rmwOp (m : Operand) (op : Byte → Flags → ByteResult) (s : State) : Host.Outcome State Fault Refusal :=
  let ea := effAddr true m s
  let r := readCycle ea.1 ea.2
  andThen (writeCycle ea.1 r.1 (r.2.setOpnd r.1)) fun t =>
    andThen (writeCycle ea.1 (op r.1 t.cpu.p).r (t.setP (op r.1 t.cpu.p).p)) finish

/-- The discarded read of the next program byte, c2 of every one-byte instruction (R200). -/
def impliedCycle (s : State) : State := discardCycle s.cpu.pc s

/-- An instruction of the Implied class (R200). -/
def impliedOp (op : State → State) (s : State) : Host.Outcome State Fault Refusal := finish (op (impliedCycle s))

/-- An accumulator form (R201). -/
def accOp (op : Byte → Flags → ByteResult) (s : State) : Host.Outcome State Fault Refusal :=
  impliedOp (fun t => (t.setP (op t.cpu.a t.cpu.p).p).setA (op t.cpu.a t.cpu.p).r) s

/-! ### Branches (R212, R357) -/

/-- The branch target `T`. -/
def branchTarget (off : Byte) (s : State) : Word := s.cpu.pc + sext16 off

/-- The common branch rule (R357); PC is the branch address + 2. -/
def branchOp (cond : Bool) (off : Byte) (s : State) : Host.Outcome State Fault Refusal :=
  if !cond then finish s
  else
    let target := branchTarget off s
    let near := mkWord (hiByte s.cpu.pc) (loByte target)
    let t := (discardCycle s.cpu.pc s).setPc near
    if hiByte target = hiByte s.cpu.pc then finish (t.setPc target)
    else finish ((discardCycle near t).setPc target)

end Sys2Proof.Machine
end

