-- ==== Sys2Proof/Machine/Alu.lean ====
section
/-! DEFINITION. Arithmetic, logic, compares, increments, shifts and rotates (42_cpu_alu.md). -/

namespace Sys2Proof.Machine

/-! ### Shared effects -/

/-- ADC (R290). -/
def addA (m : Byte) (s : State) : State :=
  (s.setA (adcResult s.cpu.a m s.cpu.p).a).setP (adcResult s.cpu.a m s.cpu.p).p

/-- SBC (R291). -/
def subA (m : Byte) (s : State) : State :=
  (s.setA (sbcResult s.cpu.a m s.cpu.p).a).setP (sbcResult s.cpu.a m s.cpu.p).p

/-- `A <- v; setNZ(A)`. -/
def logicA (v : Byte) (s : State) : State := (s.setA v).setP (s.cpu.p.setNZ v)

/-- AND (R292). -/
def andA (m : Byte) (s : State) : State := logicA (s.cpu.a &&& m) s

/-- ORA (R293). -/
def orA (m : Byte) (s : State) : State := logicA (s.cpu.a ||| m) s

/-- EOR (R294). -/
def eorA (m : Byte) (s : State) : State := logicA (s.cpu.a ^^^ m) s

/-- CMP (R295). -/
def compareA (m : Byte) (s : State) : State := s.setP (s.cpu.p.compare s.cpu.a m)

/-- CPX (R296). -/
def compareX (m : Byte) (s : State) : State := s.setP (s.cpu.p.compare s.cpu.x m)

/-- CPY (R297). -/
def compareY (m : Byte) (s : State) : State := s.setP (s.cpu.p.compare s.cpu.y m)

/-- BIT (R298). -/
def bitTestA (m : Byte) (s : State) : State := s.setP (s.cpu.p.bitTest s.cpu.a m)

/-- `X <- v; setNZ(X)` (R301, R303). -/
def countX (v : Byte) (s : State) : State := (s.setX v).setP (s.cpu.p.setNZ v)

/-- `Y <- v; setNZ(Y)` (R302, R304). -/
def countY (v : Byte) (s : State) : State := (s.setY v).setP (s.cpu.p.setNZ v)

/-! ### Add and subtract -/

/-- `ADC (b,X)`, opcode $61 (R290). -/
def execAdcIndx (b : Byte) (s : State) : Host.Outcome State Fault Refusal := readOp (.indx b) addA s

/-- `ADC b`, opcode $65 (R290). -/
def execAdcZp (b : Byte) (s : State) : Host.Outcome State Fault Refusal := readOp (.zp b) addA s

/-- `ADC #v`, opcode $69 (R290). -/
def execAdcImm (v : Byte) (s : State) : Host.Outcome State Fault Refusal := immOp v addA s

/-- `ADC w`, opcode $6D (R290). -/
def execAdcAbs (w : Word) (s : State) : Host.Outcome State Fault Refusal := readOp (.abs w) addA s

/-- `ADC (b),Y`, opcode $71 (R290). -/
def execAdcIndy (b : Byte) (s : State) : Host.Outcome State Fault Refusal := readOp (.indy b) addA s

/-- `ADC b,X`, opcode $75 (R290). -/
def execAdcZpx (b : Byte) (s : State) : Host.Outcome State Fault Refusal := readOp (.zpx b) addA s

/-- `ADC w,Y`, opcode $79 (R290). -/
def execAdcAbsy (w : Word) (s : State) : Host.Outcome State Fault Refusal := readOp (.absy w) addA s

/-- `ADC w,X`, opcode $7D (R290). -/
def execAdcAbsx (w : Word) (s : State) : Host.Outcome State Fault Refusal := readOp (.absx w) addA s

/-- `SBC (b,X)`, opcode $E1 (R291). -/
def execSbcIndx (b : Byte) (s : State) : Host.Outcome State Fault Refusal := readOp (.indx b) subA s

/-- `SBC b`, opcode $E5 (R291). -/
def execSbcZp (b : Byte) (s : State) : Host.Outcome State Fault Refusal := readOp (.zp b) subA s

/-- `SBC #v`, opcode $E9 (R291). -/
def execSbcImm (v : Byte) (s : State) : Host.Outcome State Fault Refusal := immOp v subA s

/-- `SBC w`, opcode $ED (R291). -/
def execSbcAbs (w : Word) (s : State) : Host.Outcome State Fault Refusal := readOp (.abs w) subA s

/-- `SBC (b),Y`, opcode $F1 (R291). -/
def execSbcIndy (b : Byte) (s : State) : Host.Outcome State Fault Refusal := readOp (.indy b) subA s

/-- `SBC b,X`, opcode $F5 (R291). -/
def execSbcZpx (b : Byte) (s : State) : Host.Outcome State Fault Refusal := readOp (.zpx b) subA s

/-- `SBC w,Y`, opcode $F9 (R291). -/
def execSbcAbsy (w : Word) (s : State) : Host.Outcome State Fault Refusal := readOp (.absy w) subA s

/-- `SBC w,X`, opcode $FD (R291). -/
def execSbcAbsx (w : Word) (s : State) : Host.Outcome State Fault Refusal := readOp (.absx w) subA s

/-! ### Logic -/

/-- `AND (b,X)`, opcode $21 (R292). -/
def execAndIndx (b : Byte) (s : State) : Host.Outcome State Fault Refusal := readOp (.indx b) andA s

/-- `AND b`, opcode $25 (R292). -/
def execAndZp (b : Byte) (s : State) : Host.Outcome State Fault Refusal := readOp (.zp b) andA s

/-- `AND #v`, opcode $29 (R292). -/
def execAndImm (v : Byte) (s : State) : Host.Outcome State Fault Refusal := immOp v andA s

/-- `AND w`, opcode $2D (R292). -/
def execAndAbs (w : Word) (s : State) : Host.Outcome State Fault Refusal := readOp (.abs w) andA s

/-- `AND (b),Y`, opcode $31 (R292). -/
def execAndIndy (b : Byte) (s : State) : Host.Outcome State Fault Refusal := readOp (.indy b) andA s

/-- `AND b,X`, opcode $35 (R292). -/
def execAndZpx (b : Byte) (s : State) : Host.Outcome State Fault Refusal := readOp (.zpx b) andA s

/-- `AND w,Y`, opcode $39 (R292). -/
def execAndAbsy (w : Word) (s : State) : Host.Outcome State Fault Refusal := readOp (.absy w) andA s

/-- `AND w,X`, opcode $3D (R292). -/
def execAndAbsx (w : Word) (s : State) : Host.Outcome State Fault Refusal := readOp (.absx w) andA s

/-- `ORA (b,X)`, opcode $01 (R293). -/
def execOraIndx (b : Byte) (s : State) : Host.Outcome State Fault Refusal := readOp (.indx b) orA s

/-- `ORA b`, opcode $05 (R293). -/
def execOraZp (b : Byte) (s : State) : Host.Outcome State Fault Refusal := readOp (.zp b) orA s

/-- `ORA #v`, opcode $09 (R293). -/
def execOraImm (v : Byte) (s : State) : Host.Outcome State Fault Refusal := immOp v orA s

/-- `ORA w`, opcode $0D (R293). -/
def execOraAbs (w : Word) (s : State) : Host.Outcome State Fault Refusal := readOp (.abs w) orA s

/-- `ORA (b),Y`, opcode $11 (R293). -/
def execOraIndy (b : Byte) (s : State) : Host.Outcome State Fault Refusal := readOp (.indy b) orA s

/-- `ORA b,X`, opcode $15 (R293). -/
def execOraZpx (b : Byte) (s : State) : Host.Outcome State Fault Refusal := readOp (.zpx b) orA s

/-- `ORA w,Y`, opcode $19 (R293). -/
def execOraAbsy (w : Word) (s : State) : Host.Outcome State Fault Refusal := readOp (.absy w) orA s

/-- `ORA w,X`, opcode $1D (R293). -/
def execOraAbsx (w : Word) (s : State) : Host.Outcome State Fault Refusal := readOp (.absx w) orA s

/-- `EOR (b,X)`, opcode $41 (R294). -/
def execEorIndx (b : Byte) (s : State) : Host.Outcome State Fault Refusal := readOp (.indx b) eorA s

/-- `EOR b`, opcode $45 (R294). -/
def execEorZp (b : Byte) (s : State) : Host.Outcome State Fault Refusal := readOp (.zp b) eorA s

/-- `EOR #v`, opcode $49 (R294). -/
def execEorImm (v : Byte) (s : State) : Host.Outcome State Fault Refusal := immOp v eorA s

/-- `EOR w`, opcode $4D (R294). -/
def execEorAbs (w : Word) (s : State) : Host.Outcome State Fault Refusal := readOp (.abs w) eorA s

/-- `EOR (b),Y`, opcode $51 (R294). -/
def execEorIndy (b : Byte) (s : State) : Host.Outcome State Fault Refusal := readOp (.indy b) eorA s

/-- `EOR b,X`, opcode $55 (R294). -/
def execEorZpx (b : Byte) (s : State) : Host.Outcome State Fault Refusal := readOp (.zpx b) eorA s

/-- `EOR w,Y`, opcode $59 (R294). -/
def execEorAbsy (w : Word) (s : State) : Host.Outcome State Fault Refusal := readOp (.absy w) eorA s

/-- `EOR w,X`, opcode $5D (R294). -/
def execEorAbsx (w : Word) (s : State) : Host.Outcome State Fault Refusal := readOp (.absx w) eorA s

/-! ### Compare and bit test -/

/-- `CMP (b,X)`, opcode $C1 (R295). -/
def execCmpIndx (b : Byte) (s : State) : Host.Outcome State Fault Refusal := readOp (.indx b) compareA s

/-- `CMP b`, opcode $C5 (R295). -/
def execCmpZp (b : Byte) (s : State) : Host.Outcome State Fault Refusal := readOp (.zp b) compareA s

/-- `CMP #v`, opcode $C9 (R295). -/
def execCmpImm (v : Byte) (s : State) : Host.Outcome State Fault Refusal := immOp v compareA s

/-- `CMP w`, opcode $CD (R295). -/
def execCmpAbs (w : Word) (s : State) : Host.Outcome State Fault Refusal := readOp (.abs w) compareA s

/-- `CMP (b),Y`, opcode $D1 (R295). -/
def execCmpIndy (b : Byte) (s : State) : Host.Outcome State Fault Refusal := readOp (.indy b) compareA s

/-- `CMP b,X`, opcode $D5 (R295). -/
def execCmpZpx (b : Byte) (s : State) : Host.Outcome State Fault Refusal := readOp (.zpx b) compareA s

/-- `CMP w,Y`, opcode $D9 (R295). -/
def execCmpAbsy (w : Word) (s : State) : Host.Outcome State Fault Refusal := readOp (.absy w) compareA s

/-- `CMP w,X`, opcode $DD (R295). -/
def execCmpAbsx (w : Word) (s : State) : Host.Outcome State Fault Refusal := readOp (.absx w) compareA s

/-- `CPX #v`, opcode $E0 (R296). -/
def execCpxImm (v : Byte) (s : State) : Host.Outcome State Fault Refusal := immOp v compareX s

/-- `CPX b`, opcode $E4 (R296). -/
def execCpxZp (b : Byte) (s : State) : Host.Outcome State Fault Refusal := readOp (.zp b) compareX s

/-- `CPX w`, opcode $EC (R296). -/
def execCpxAbs (w : Word) (s : State) : Host.Outcome State Fault Refusal := readOp (.abs w) compareX s

/-- `CPY #v`, opcode $C0 (R297). -/
def execCpyImm (v : Byte) (s : State) : Host.Outcome State Fault Refusal := immOp v compareY s

/-- `CPY b`, opcode $C4 (R297). -/
def execCpyZp (b : Byte) (s : State) : Host.Outcome State Fault Refusal := readOp (.zp b) compareY s

/-- `CPY w`, opcode $CC (R297). -/
def execCpyAbs (w : Word) (s : State) : Host.Outcome State Fault Refusal := readOp (.abs w) compareY s

/-- `BIT b`, opcode $24 (R298). -/
def execBitZp (b : Byte) (s : State) : Host.Outcome State Fault Refusal := readOp (.zp b) bitTestA s

/-- `BIT w`, opcode $2C (R298). -/
def execBitAbs (w : Word) (s : State) : Host.Outcome State Fault Refusal := readOp (.abs w) bitTestA s

/-! ### Increment and decrement -/

/-- `INC b`, opcode $E6 (R299). -/
def execIncZp (b : Byte) (s : State) : Host.Outcome State Fault Refusal := rmwOp (.zp b) incResult s

/-- `INC w`, opcode $EE (R299). -/
def execIncAbs (w : Word) (s : State) : Host.Outcome State Fault Refusal := rmwOp (.abs w) incResult s

/-- `INC b,X`, opcode $F6 (R299). -/
def execIncZpx (b : Byte) (s : State) : Host.Outcome State Fault Refusal := rmwOp (.zpx b) incResult s

/-- `INC w,X`, opcode $FE (R299). -/
def execIncAbsx (w : Word) (s : State) : Host.Outcome State Fault Refusal := rmwOp (.absx w) incResult s

/-- `DEC b`, opcode $C6 (R300). -/
def execDecZp (b : Byte) (s : State) : Host.Outcome State Fault Refusal := rmwOp (.zp b) decResult s

/-- `DEC w`, opcode $CE (R300). -/
def execDecAbs (w : Word) (s : State) : Host.Outcome State Fault Refusal := rmwOp (.abs w) decResult s

/-- `DEC b,X`, opcode $D6 (R300). -/
def execDecZpx (b : Byte) (s : State) : Host.Outcome State Fault Refusal := rmwOp (.zpx b) decResult s

/-- `DEC w,X`, opcode $DE (R300). -/
def execDecAbsx (w : Word) (s : State) : Host.Outcome State Fault Refusal := rmwOp (.absx w) decResult s

/-- `INX`, opcode $E8 (R301). -/
def execInx (s : State) : Host.Outcome State Fault Refusal := impliedOp (fun t => countX (t.cpu.x + 1) t) s

/-- `INY`, opcode $C8 (R302). -/
def execIny (s : State) : Host.Outcome State Fault Refusal := impliedOp (fun t => countY (t.cpu.y + 1) t) s

/-- `DEX`, opcode $CA (R303). -/
def execDex (s : State) : Host.Outcome State Fault Refusal := impliedOp (fun t => countX (t.cpu.x - 1) t) s

/-- `DEY`, opcode $88 (R304). -/
def execDey (s : State) : Host.Outcome State Fault Refusal := impliedOp (fun t => countY (t.cpu.y - 1) t) s

/-! ### Shifts and rotates -/

/-- `ASL b`, opcode $06 (R305). -/
def execAslZp (b : Byte) (s : State) : Host.Outcome State Fault Refusal := rmwOp (.zp b) aslResult s

/-- `ASL A`, opcode $0A (R305). -/
def execAslAcc (s : State) : Host.Outcome State Fault Refusal := accOp aslResult s

/-- `ASL w`, opcode $0E (R305). -/
def execAslAbs (w : Word) (s : State) : Host.Outcome State Fault Refusal := rmwOp (.abs w) aslResult s

/-- `ASL b,X`, opcode $16 (R305). -/
def execAslZpx (b : Byte) (s : State) : Host.Outcome State Fault Refusal := rmwOp (.zpx b) aslResult s

/-- `ASL w,X`, opcode $1E (R305). -/
def execAslAbsx (w : Word) (s : State) : Host.Outcome State Fault Refusal := rmwOp (.absx w) aslResult s

/-- `LSR b`, opcode $46 (R306). -/
def execLsrZp (b : Byte) (s : State) : Host.Outcome State Fault Refusal := rmwOp (.zp b) lsrResult s

/-- `LSR A`, opcode $4A (R306). -/
def execLsrAcc (s : State) : Host.Outcome State Fault Refusal := accOp lsrResult s

/-- `LSR w`, opcode $4E (R306). -/
def execLsrAbs (w : Word) (s : State) : Host.Outcome State Fault Refusal := rmwOp (.abs w) lsrResult s

/-- `LSR b,X`, opcode $56 (R306). -/
def execLsrZpx (b : Byte) (s : State) : Host.Outcome State Fault Refusal := rmwOp (.zpx b) lsrResult s

/-- `LSR w,X`, opcode $5E (R306). -/
def execLsrAbsx (w : Word) (s : State) : Host.Outcome State Fault Refusal := rmwOp (.absx w) lsrResult s

/-- `ROL b`, opcode $26 (R307). -/
def execRolZp (b : Byte) (s : State) : Host.Outcome State Fault Refusal := rmwOp (.zp b) rolResult s

/-- `ROL A`, opcode $2A (R307). -/
def execRolAcc (s : State) : Host.Outcome State Fault Refusal := accOp rolResult s

/-- `ROL w`, opcode $2E (R307). -/
def execRolAbs (w : Word) (s : State) : Host.Outcome State Fault Refusal := rmwOp (.abs w) rolResult s

/-- `ROL b,X`, opcode $36 (R307). -/
def execRolZpx (b : Byte) (s : State) : Host.Outcome State Fault Refusal := rmwOp (.zpx b) rolResult s

/-- `ROL w,X`, opcode $3E (R307). -/
def execRolAbsx (w : Word) (s : State) : Host.Outcome State Fault Refusal := rmwOp (.absx w) rolResult s

/-- `ROR b`, opcode $66 (R308). -/
def execRorZp (b : Byte) (s : State) : Host.Outcome State Fault Refusal := rmwOp (.zp b) rorResult s

/-- `ROR A`, opcode $6A (R308). -/
def execRorAcc (s : State) : Host.Outcome State Fault Refusal := accOp rorResult s

/-- `ROR w`, opcode $6E (R308). -/
def execRorAbs (w : Word) (s : State) : Host.Outcome State Fault Refusal := rmwOp (.abs w) rorResult s

/-- `ROR b,X`, opcode $76 (R308). -/
def execRorZpx (b : Byte) (s : State) : Host.Outcome State Fault Refusal := rmwOp (.zpx b) rorResult s

/-- `ROR w,X`, opcode $7E (R308). -/
def execRorAbsx (w : Word) (s : State) : Host.Outcome State Fault Refusal := rmwOp (.absx w) rorResult s

end Sys2Proof.Machine
end

