-- ==== Sys2Proof/Machine/Control.lean ====
section
/-! DEFINITION. Jumps, subroutines, returns, BRK, NOP, branches and flag operations (43_cpu_control.md). -/

namespace Sys2Proof.Machine

/-! ### Jumps and subroutines -/

/-- `JMP w`, opcode $4C (R350). -/
def execJmpAbs (w : Word) (s : State) : Host.Outcome State Fault Refusal := finish (s.setPc w)

/-- `JMP (w)`, opcode $6C (R351). -/
def execJmpInd (w : Word) (s : State) : Host.Outcome State Fault Refusal :=
  let lo := readCycle w s
  let hi := readCycle (uncorrected w 1) lo.2
  finish (hi.2.setPc (mkWord hi.1 lo.1))

/-- `JSR w`, opcode $20 (R352): the low byte is the one cycle 2 fetched; the high byte is read in cycle 6, after the pushes,
so the high half of `w` is its encoding only (log entry 18). -/
def execJsrAbs (w : Word) (s : State) : Host.Outcome State Fault Refusal :=
  andThen (push (hiByte s.cpu.pc) (discardCycle (stackAddr s) s)) fun t =>
  andThen (push (loByte t.cpu.pc) t) fun u =>
  let hi := readCycle u.cpu.pc u
  finish (hi.2.setPc (mkWord hi.1 (loByte w)))

/-- `RTS`, opcode $60 (R353). -/
def execRts (s : State) : Host.Outcome State Fault Refusal :=
  let lo := pullNext (pullStart (impliedCycle s))
  let hi := pullRead lo.2
  finish (discardCycle (mkWord hi.1 lo.1) (hi.2.setPc (mkWord hi.1 lo.1))).incPc

/-- `RTI`, opcode $40 (R354). -/
def execRti (s : State) : Host.Outcome State Fault Refusal := returnFromInterrupt (impliedCycle s)

/-- `BRK`, opcode $00 (R355). -/
def execBrk (s : State) : Host.Outcome State Fault Refusal := enterInterrupt true s.cfg.vecIrq (impliedCycle s).incPc

/-- `NOP`, opcode $EA (R356). -/
def execNop (s : State) : Host.Outcome State Fault Refusal := impliedOp (fun t => t) s

/-! ### Conditional branches -/

/-- `BCC off`, opcode $90 (R358). -/
def execBcc (off : Byte) (s : State) : Host.Outcome State Fault Refusal := branchOp (!s.cpu.p.c) off s

/-- `BCS off`, opcode $B0 (R359). -/
def execBcs (off : Byte) (s : State) : Host.Outcome State Fault Refusal := branchOp s.cpu.p.c off s

/-- `BEQ off`, opcode $F0 (R360). -/
def execBeq (off : Byte) (s : State) : Host.Outcome State Fault Refusal := branchOp s.cpu.p.z off s

/-- `BNE off`, opcode $D0 (R361). -/
def execBne (off : Byte) (s : State) : Host.Outcome State Fault Refusal := branchOp (!s.cpu.p.z) off s

/-- `BMI off`, opcode $30 (R362). -/
def execBmi (off : Byte) (s : State) : Host.Outcome State Fault Refusal := branchOp s.cpu.p.n off s

/-- `BPL off`, opcode $10 (R363). -/
def execBpl (off : Byte) (s : State) : Host.Outcome State Fault Refusal := branchOp (!s.cpu.p.n) off s

/-- `BVC off`, opcode $50 (R364). -/
def execBvc (off : Byte) (s : State) : Host.Outcome State Fault Refusal := branchOp (!s.cpu.p.v) off s

/-- `BVS off`, opcode $70 (R365). -/
def execBvs (off : Byte) (s : State) : Host.Outcome State Fault Refusal := branchOp s.cpu.p.v off s

/-! ### Flag operations -/

/-- `CLC`, opcode $18 (R366). -/
def execClc (s : State) : Host.Outcome State Fault Refusal :=
  impliedOp (fun t => t.setP { t.cpu.p with c := false }) s

/-- `SEC`, opcode $38 (R367). -/
def execSec (s : State) : Host.Outcome State Fault Refusal :=
  impliedOp (fun t => t.setP { t.cpu.p with c := true }) s

/-- `CLI`, opcode $58 (R368). -/
def execCli (s : State) : Host.Outcome State Fault Refusal :=
  impliedOp (fun t => t.setP { t.cpu.p with i := false }) s

/-- `SEI`, opcode $78 (R369). -/
def execSei (s : State) : Host.Outcome State Fault Refusal :=
  impliedOp (fun t => t.setP { t.cpu.p with i := true }) s

/-- `CLD`, opcode $D8 (R370). -/
def execCld (s : State) : Host.Outcome State Fault Refusal :=
  impliedOp (fun t => t.setP { t.cpu.p with d := false }) s

/-- `SED`, opcode $F8 (R371). -/
def execSed (s : State) : Host.Outcome State Fault Refusal :=
  impliedOp (fun t => t.setP { t.cpu.p with d := true }) s

/-- `CLV`, opcode $B8 (R372). -/
def execClv (s : State) : Host.Outcome State Fault Refusal :=
  impliedOp (fun t => t.setP { t.cpu.p with v := false }) s

end Sys2Proof.Machine
end

