-- ==== Sys2Proof/Machine/FdcAccess.lean ====
section
/-! DEFINITION. The FDC register accesses and its 11 commands as meanings. A command is the write of its byte to the command register
(R487); the states it starts are run by `Update()` (R481; log entry 16). -/

namespace Sys2Proof.Machine

/-- A read access of FDC register `r`. -/
def fdcReadAt (r : Word) (x : Byte × Fdc) (s : State) : Host.Outcome State Fault Refusal :=
  .next (({ s with fdc := x.2 } : State).latch (regAddr s.cfg.fdcBase 3 r) x.1 true)

/-- A write access of FDC register `r`, which the controller may refuse. -/
def fdcWriteAt (r : Word) (d : Byte) (x : Except Refusal Fdc) (s : State) : Host.Outcome State Fault Refusal :=
  match x with
  | .ok f => .next (({ s with fdc := f } : State).latch (regAddr s.cfg.fdcBase 3 r) d false)
  | .error e => .refused e

/-- Read FDC register 0 (R486). -/
def execFdcReadStatus (s : State) : Host.Outcome State Fault Refusal :=
  fdcReadAt 0 (s.fdc.readStatus s.cfg) s

/-- Write FDC register 0 (R487). -/
def execFdcWriteCommand (v : Byte) (s : State) : Host.Outcome State Fault Refusal :=
  fdcWriteAt 0 v (s.fdc.writeCommand s.cfg v) s

/-- Read FDC register 1 (R488). -/
def execFdcReadTrack (s : State) : Host.Outcome State Fault Refusal :=
  fdcReadAt 1 (s.fdc.readTrack) s

/-- Write FDC register 1 (R488). -/
def execFdcWriteTrack (v : Byte) (s : State) : Host.Outcome State Fault Refusal :=
  fdcWriteAt 1 v (.ok (s.fdc.writeTrack v)) s

/-- Read FDC register 2 (R488). -/
def execFdcReadSector (s : State) : Host.Outcome State Fault Refusal :=
  fdcReadAt 2 (s.fdc.readSector) s

/-- Write FDC register 2 (R488). -/
def execFdcWriteSector (v : Byte) (s : State) : Host.Outcome State Fault Refusal :=
  fdcWriteAt 2 v (.ok (s.fdc.writeSector v)) s

/-- Read FDC register 3 (R489). -/
def execFdcReadData (s : State) : Host.Outcome State Fault Refusal :=
  fdcReadAt 3 (s.fdc.readData) s

/-- Write FDC register 3 (R490). -/
def execFdcWriteData (v : Byte) (s : State) : Host.Outcome State Fault Refusal :=
  fdcWriteAt 3 v (.ok (s.fdc.writeData v)) s

/-- Command byte `v`: Restore (R500). -/
def execFdcCmdRestore (v : Byte) (s : State) : Host.Outcome State Fault Refusal :=
  fdcWriteAt 0 v (.ok (s.fdc.restore s.cfg v)) s

/-- Command byte `v`: Seek (R501). -/
def execFdcCmdSeek (v : Byte) (s : State) : Host.Outcome State Fault Refusal :=
  fdcWriteAt 0 v (.ok (s.fdc.seek s.cfg v)) s

/-- Command byte `v`: Step (R502). -/
def execFdcCmdStep (v : Byte) (s : State) : Host.Outcome State Fault Refusal :=
  fdcWriteAt 0 v (.ok (s.fdc.step s.cfg v)) s

/-- Command byte `v`: Step-In (R503). -/
def execFdcCmdStepIn (v : Byte) (s : State) : Host.Outcome State Fault Refusal :=
  fdcWriteAt 0 v (.ok (s.fdc.stepInCmd s.cfg v)) s

/-- Command byte `v`: Step-Out (R504). -/
def execFdcCmdStepOut (v : Byte) (s : State) : Host.Outcome State Fault Refusal :=
  fdcWriteAt 0 v (.ok (s.fdc.stepOutCmd s.cfg v)) s

/-- Command byte `v`: Read Sector (R510). -/
def execFdcCmdReadSector (v : Byte) (s : State) : Host.Outcome State Fault Refusal :=
  fdcWriteAt 0 v (.ok (s.fdc.readSectorCmd s.cfg v)) s

/-- Command byte `v`: Write Sector (R511). -/
def execFdcCmdWriteSector (v : Byte) (s : State) : Host.Outcome State Fault Refusal :=
  fdcWriteAt 0 v (.ok (s.fdc.writeSectorCmd s.cfg v)) s

/-- Command byte `v`: Read Address (R520). -/
def execFdcCmdReadAddress (v : Byte) (s : State) : Host.Outcome State Fault Refusal :=
  fdcWriteAt 0 v (.ok (s.fdc.readAddressCmd s.cfg v)) s

/-- Command byte `v`: Force Interrupt (R525). -/
def execFdcCmdForceInterrupt (v : Byte) (s : State) : Host.Outcome State Fault Refusal :=
  fdcWriteAt 0 v (.ok (s.fdc.forceInt v)) s

/-- Command byte `v`: Read Track (R521). -/
def execFdcCmdReadTrack (v : Byte) (s : State) : Host.Outcome State Fault Refusal :=
  fdcWriteAt 0 v (s.fdc.readTrackCmd v) s

/-- Command byte `v`: Write Track (R522). -/
def execFdcCmdWriteTrack (v : Byte) (s : State) : Host.Outcome State Fault Refusal :=
  fdcWriteAt 0 v (s.fdc.writeTrackCmd v) s

end Sys2Proof.Machine
end

