-- ==== Sys2Proof/Machine/LoadStore.lean ====
section
/-! DEFINITION. Loads, stores, register transfers, stack pushes and pulls (41_cpu_load_store_transfer.md). -/

namespace Sys2Proof.Machine

/-! ### Shared effects -/

/-- `A <- m; setNZ(A)` (R250). -/
def loadA (v : Byte) (s : State) : State := (s.setA v).setP (s.cpu.p.setNZ v)

/-- `X <- m; setNZ(X)` (R251). -/
def loadX (v : Byte) (s : State) : State := (s.setX v).setP (s.cpu.p.setNZ v)

/-- `Y <- m; setNZ(Y)` (R252). -/
def loadY (v : Byte) (s : State) : State := (s.setY v).setP (s.cpu.p.setNZ v)

/-! ### Loads -/

/-- `LDA (b,X)`, opcode $A1 (R250). -/
def execLdaIndx (b : Byte) (s : State) : Host.Outcome State Fault Refusal := readOp (.indx b) loadA s

/-- `LDA b`, opcode $A5 (R250). -/
def execLdaZp (b : Byte) (s : State) : Host.Outcome State Fault Refusal := readOp (.zp b) loadA s

/-- `LDA #v`, opcode $A9 (R250). -/
def execLdaImm (v : Byte) (s : State) : Host.Outcome State Fault Refusal := immOp v loadA s

/-- `LDA w`, opcode $AD (R250). -/
def execLdaAbs (w : Word) (s : State) : Host.Outcome State Fault Refusal := readOp (.abs w) loadA s

/-- `LDA (b),Y`, opcode $B1 (R250). -/
def execLdaIndy (b : Byte) (s : State) : Host.Outcome State Fault Refusal := readOp (.indy b) loadA s

/-- `LDA b,X`, opcode $B5 (R250). -/
def execLdaZpx (b : Byte) (s : State) : Host.Outcome State Fault Refusal := readOp (.zpx b) loadA s

/-- `LDA w,Y`, opcode $B9 (R250). -/
def execLdaAbsy (w : Word) (s : State) : Host.Outcome State Fault Refusal := readOp (.absy w) loadA s

/-- `LDA w,X`, opcode $BD (R250). -/
def execLdaAbsx (w : Word) (s : State) : Host.Outcome State Fault Refusal := readOp (.absx w) loadA s

/-- `LDX #v`, opcode $A2 (R251). -/
def execLdxImm (v : Byte) (s : State) : Host.Outcome State Fault Refusal := immOp v loadX s

/-- `LDX b`, opcode $A6 (R251). -/
def execLdxZp (b : Byte) (s : State) : Host.Outcome State Fault Refusal := readOp (.zp b) loadX s

/-- `LDX w`, opcode $AE (R251). -/
def execLdxAbs (w : Word) (s : State) : Host.Outcome State Fault Refusal := readOp (.abs w) loadX s

/-- `LDX b,Y`, opcode $B6 (R251). -/
def execLdxZpy (b : Byte) (s : State) : Host.Outcome State Fault Refusal := readOp (.zpy b) loadX s

/-- `LDX w,Y`, opcode $BE (R251). -/
def execLdxAbsy (w : Word) (s : State) : Host.Outcome State Fault Refusal := readOp (.absy w) loadX s

/-- `LDY #v`, opcode $A0 (R252). -/
def execLdyImm (v : Byte) (s : State) : Host.Outcome State Fault Refusal := immOp v loadY s

/-- `LDY b`, opcode $A4 (R252). -/
def execLdyZp (b : Byte) (s : State) : Host.Outcome State Fault Refusal := readOp (.zp b) loadY s

/-- `LDY w`, opcode $AC (R252). -/
def execLdyAbs (w : Word) (s : State) : Host.Outcome State Fault Refusal := readOp (.abs w) loadY s

/-- `LDY b,X`, opcode $B4 (R252). -/
def execLdyZpx (b : Byte) (s : State) : Host.Outcome State Fault Refusal := readOp (.zpx b) loadY s

/-- `LDY w,X`, opcode $BC (R252). -/
def execLdyAbsx (w : Word) (s : State) : Host.Outcome State Fault Refusal := readOp (.absx w) loadY s

/-! ### Stores -/

/-- `STA (b,X)`, opcode $81 (R253). -/
def execStaIndx (b : Byte) (s : State) : Host.Outcome State Fault Refusal := storeOp (.indx b) s.cpu.a s

/-- `STA b`, opcode $85 (R253). -/
def execStaZp (b : Byte) (s : State) : Host.Outcome State Fault Refusal := storeOp (.zp b) s.cpu.a s

/-- `STA w`, opcode $8D (R253). -/
def execStaAbs (w : Word) (s : State) : Host.Outcome State Fault Refusal := storeOp (.abs w) s.cpu.a s

/-- `STA (b),Y`, opcode $91 (R253). -/
def execStaIndy (b : Byte) (s : State) : Host.Outcome State Fault Refusal := storeOp (.indy b) s.cpu.a s

/-- `STA b,X`, opcode $95 (R253). -/
def execStaZpx (b : Byte) (s : State) : Host.Outcome State Fault Refusal := storeOp (.zpx b) s.cpu.a s

/-- `STA w,Y`, opcode $99 (R253). -/
def execStaAbsy (w : Word) (s : State) : Host.Outcome State Fault Refusal := storeOp (.absy w) s.cpu.a s

/-- `STA w,X`, opcode $9D (R253). -/
def execStaAbsx (w : Word) (s : State) : Host.Outcome State Fault Refusal := storeOp (.absx w) s.cpu.a s

/-- `STX b`, opcode $86 (R254). -/
def execStxZp (b : Byte) (s : State) : Host.Outcome State Fault Refusal := storeOp (.zp b) s.cpu.x s

/-- `STX w`, opcode $8E (R254). -/
def execStxAbs (w : Word) (s : State) : Host.Outcome State Fault Refusal := storeOp (.abs w) s.cpu.x s

/-- `STX b,Y`, opcode $96 (R254). -/
def execStxZpy (b : Byte) (s : State) : Host.Outcome State Fault Refusal := storeOp (.zpy b) s.cpu.x s

/-- `STY b`, opcode $84 (R255). -/
def execStyZp (b : Byte) (s : State) : Host.Outcome State Fault Refusal := storeOp (.zp b) s.cpu.y s

/-- `STY w`, opcode $8C (R255). -/
def execStyAbs (w : Word) (s : State) : Host.Outcome State Fault Refusal := storeOp (.abs w) s.cpu.y s

/-- `STY b,X`, opcode $94 (R255). -/
def execStyZpx (b : Byte) (s : State) : Host.Outcome State Fault Refusal := storeOp (.zpx b) s.cpu.y s

/-! ### Register transfers -/

/-- `TAX`, opcode $AA (R256). -/
def execTax (s : State) : Host.Outcome State Fault Refusal := impliedOp (fun t => loadX t.cpu.a t) s

/-- `TAY`, opcode $A8 (R257). -/
def execTay (s : State) : Host.Outcome State Fault Refusal := impliedOp (fun t => loadY t.cpu.a t) s

/-- `TXA`, opcode $8A (R258). -/
def execTxa (s : State) : Host.Outcome State Fault Refusal := impliedOp (fun t => loadA t.cpu.x t) s

/-- `TYA`, opcode $98 (R259). -/
def execTya (s : State) : Host.Outcome State Fault Refusal := impliedOp (fun t => loadA t.cpu.y t) s

/-- `TSX`, opcode $BA (R260). -/
def execTsx (s : State) : Host.Outcome State Fault Refusal := impliedOp (fun t => loadX t.cpu.s t) s

/-- `TXS`, opcode $9A (R261). -/
def execTxs (s : State) : Host.Outcome State Fault Refusal := impliedOp (fun t => t.setS t.cpu.x) s

/-! ### Stack pushes and pulls -/

/-- `PHA`, opcode $48 (R262). -/
def execPha (s : State) : Host.Outcome State Fault Refusal := andThen (push s.cpu.a (impliedCycle s)) finish

/-- `PHP`, opcode $08 (R263). -/
def execPhp (s : State) : Host.Outcome State Fault Refusal := andThen (push (s.cpu.p.toByte true) (impliedCycle s)) finish

/-- Pull one byte: the discarded stack read with `S + 1`, then the read (R264, R265). -/
def pullByte (s : State) : Byte × State := pullRead (pullStart s)

/-- `PLA`, opcode $68 (R264). -/
def execPla (s : State) : Host.Outcome State Fault Refusal :=
  let r := pullByte (impliedCycle s)
  finish (loadA r.1 r.2)

/-- `PLP`, opcode $28 (R265). -/
def execPlp (s : State) : Host.Outcome State Fault Refusal :=
  let r := pullByte (impliedCycle s)
  finish (r.2.setP (Flags.ofByte r.1))

end Sys2Proof.Machine
end

