-- ==== Sys2Proof/Machine/Reserved.lean ====
section
/-! DEFINITION. The 105 reserved opcodes (R147), each refused under its own value. -/

namespace Sys2Proof.Machine

/-- The spec gives the 105 reserved opcodes no meaning and has the model refuse them (R147, R195, D2). -/
def refuseReserved (opcode : Byte) (_ : State) : Host.Outcome State Fault Refusal :=
  .refused (.reservedOpcode opcode)

/-- Reserved opcode $02 (R147). -/
def execReserved02 (s : State) : Host.Outcome State Fault Refusal := refuseReserved 0x02 s

/-- Reserved opcode $03 (R147). -/
def execReserved03 (s : State) : Host.Outcome State Fault Refusal := refuseReserved 0x03 s

/-- Reserved opcode $04 (R147). -/
def execReserved04 (s : State) : Host.Outcome State Fault Refusal := refuseReserved 0x04 s

/-- Reserved opcode $07 (R147). -/
def execReserved07 (s : State) : Host.Outcome State Fault Refusal := refuseReserved 0x07 s

/-- Reserved opcode $0B (R147). -/
def execReserved0B (s : State) : Host.Outcome State Fault Refusal := refuseReserved 0x0B s

/-- Reserved opcode $0C (R147). -/
def execReserved0C (s : State) : Host.Outcome State Fault Refusal := refuseReserved 0x0C s

/-- Reserved opcode $0F (R147). -/
def execReserved0F (s : State) : Host.Outcome State Fault Refusal := refuseReserved 0x0F s

/-- Reserved opcode $12 (R147). -/
def execReserved12 (s : State) : Host.Outcome State Fault Refusal := refuseReserved 0x12 s

/-- Reserved opcode $13 (R147). -/
def execReserved13 (s : State) : Host.Outcome State Fault Refusal := refuseReserved 0x13 s

/-- Reserved opcode $14 (R147). -/
def execReserved14 (s : State) : Host.Outcome State Fault Refusal := refuseReserved 0x14 s

/-- Reserved opcode $17 (R147). -/
def execReserved17 (s : State) : Host.Outcome State Fault Refusal := refuseReserved 0x17 s

/-- Reserved opcode $1A (R147). -/
def execReserved1A (s : State) : Host.Outcome State Fault Refusal := refuseReserved 0x1A s

/-- Reserved opcode $1B (R147). -/
def execReserved1B (s : State) : Host.Outcome State Fault Refusal := refuseReserved 0x1B s

/-- Reserved opcode $1C (R147). -/
def execReserved1C (s : State) : Host.Outcome State Fault Refusal := refuseReserved 0x1C s

/-- Reserved opcode $1F (R147). -/
def execReserved1F (s : State) : Host.Outcome State Fault Refusal := refuseReserved 0x1F s

/-- Reserved opcode $22 (R147). -/
def execReserved22 (s : State) : Host.Outcome State Fault Refusal := refuseReserved 0x22 s

/-- Reserved opcode $23 (R147). -/
def execReserved23 (s : State) : Host.Outcome State Fault Refusal := refuseReserved 0x23 s

/-- Reserved opcode $27 (R147). -/
def execReserved27 (s : State) : Host.Outcome State Fault Refusal := refuseReserved 0x27 s

/-- Reserved opcode $2B (R147). -/
def execReserved2B (s : State) : Host.Outcome State Fault Refusal := refuseReserved 0x2B s

/-- Reserved opcode $2F (R147). -/
def execReserved2F (s : State) : Host.Outcome State Fault Refusal := refuseReserved 0x2F s

/-- Reserved opcode $32 (R147). -/
def execReserved32 (s : State) : Host.Outcome State Fault Refusal := refuseReserved 0x32 s

/-- Reserved opcode $33 (R147). -/
def execReserved33 (s : State) : Host.Outcome State Fault Refusal := refuseReserved 0x33 s

/-- Reserved opcode $34 (R147). -/
def execReserved34 (s : State) : Host.Outcome State Fault Refusal := refuseReserved 0x34 s

/-- Reserved opcode $37 (R147). -/
def execReserved37 (s : State) : Host.Outcome State Fault Refusal := refuseReserved 0x37 s

/-- Reserved opcode $3A (R147). -/
def execReserved3A (s : State) : Host.Outcome State Fault Refusal := refuseReserved 0x3A s

/-- Reserved opcode $3B (R147). -/
def execReserved3B (s : State) : Host.Outcome State Fault Refusal := refuseReserved 0x3B s

/-- Reserved opcode $3C (R147). -/
def execReserved3C (s : State) : Host.Outcome State Fault Refusal := refuseReserved 0x3C s

/-- Reserved opcode $3F (R147). -/
def execReserved3F (s : State) : Host.Outcome State Fault Refusal := refuseReserved 0x3F s

/-- Reserved opcode $42 (R147). -/
def execReserved42 (s : State) : Host.Outcome State Fault Refusal := refuseReserved 0x42 s

/-- Reserved opcode $43 (R147). -/
def execReserved43 (s : State) : Host.Outcome State Fault Refusal := refuseReserved 0x43 s

/-- Reserved opcode $44 (R147). -/
def execReserved44 (s : State) : Host.Outcome State Fault Refusal := refuseReserved 0x44 s

/-- Reserved opcode $47 (R147). -/
def execReserved47 (s : State) : Host.Outcome State Fault Refusal := refuseReserved 0x47 s

/-- Reserved opcode $4B (R147). -/
def execReserved4B (s : State) : Host.Outcome State Fault Refusal := refuseReserved 0x4B s

/-- Reserved opcode $4F (R147). -/
def execReserved4F (s : State) : Host.Outcome State Fault Refusal := refuseReserved 0x4F s

/-- Reserved opcode $52 (R147). -/
def execReserved52 (s : State) : Host.Outcome State Fault Refusal := refuseReserved 0x52 s

/-- Reserved opcode $53 (R147). -/
def execReserved53 (s : State) : Host.Outcome State Fault Refusal := refuseReserved 0x53 s

/-- Reserved opcode $54 (R147). -/
def execReserved54 (s : State) : Host.Outcome State Fault Refusal := refuseReserved 0x54 s

/-- Reserved opcode $57 (R147). -/
def execReserved57 (s : State) : Host.Outcome State Fault Refusal := refuseReserved 0x57 s

/-- Reserved opcode $5A (R147). -/
def execReserved5A (s : State) : Host.Outcome State Fault Refusal := refuseReserved 0x5A s

/-- Reserved opcode $5B (R147). -/
def execReserved5B (s : State) : Host.Outcome State Fault Refusal := refuseReserved 0x5B s

/-- Reserved opcode $5C (R147). -/
def execReserved5C (s : State) : Host.Outcome State Fault Refusal := refuseReserved 0x5C s

/-- Reserved opcode $5F (R147). -/
def execReserved5F (s : State) : Host.Outcome State Fault Refusal := refuseReserved 0x5F s

/-- Reserved opcode $62 (R147). -/
def execReserved62 (s : State) : Host.Outcome State Fault Refusal := refuseReserved 0x62 s

/-- Reserved opcode $63 (R147). -/
def execReserved63 (s : State) : Host.Outcome State Fault Refusal := refuseReserved 0x63 s

/-- Reserved opcode $64 (R147). -/
def execReserved64 (s : State) : Host.Outcome State Fault Refusal := refuseReserved 0x64 s

/-- Reserved opcode $67 (R147). -/
def execReserved67 (s : State) : Host.Outcome State Fault Refusal := refuseReserved 0x67 s

/-- Reserved opcode $6B (R147). -/
def execReserved6B (s : State) : Host.Outcome State Fault Refusal := refuseReserved 0x6B s

/-- Reserved opcode $6F (R147). -/
def execReserved6F (s : State) : Host.Outcome State Fault Refusal := refuseReserved 0x6F s

/-- Reserved opcode $72 (R147). -/
def execReserved72 (s : State) : Host.Outcome State Fault Refusal := refuseReserved 0x72 s

/-- Reserved opcode $73 (R147). -/
def execReserved73 (s : State) : Host.Outcome State Fault Refusal := refuseReserved 0x73 s

/-- Reserved opcode $74 (R147). -/
def execReserved74 (s : State) : Host.Outcome State Fault Refusal := refuseReserved 0x74 s

/-- Reserved opcode $77 (R147). -/
def execReserved77 (s : State) : Host.Outcome State Fault Refusal := refuseReserved 0x77 s

/-- Reserved opcode $7A (R147). -/
def execReserved7A (s : State) : Host.Outcome State Fault Refusal := refuseReserved 0x7A s

/-- Reserved opcode $7B (R147). -/
def execReserved7B (s : State) : Host.Outcome State Fault Refusal := refuseReserved 0x7B s

/-- Reserved opcode $7C (R147). -/
def execReserved7C (s : State) : Host.Outcome State Fault Refusal := refuseReserved 0x7C s

/-- Reserved opcode $7F (R147). -/
def execReserved7F (s : State) : Host.Outcome State Fault Refusal := refuseReserved 0x7F s

/-- Reserved opcode $80 (R147). -/
def execReserved80 (s : State) : Host.Outcome State Fault Refusal := refuseReserved 0x80 s

/-- Reserved opcode $82 (R147). -/
def execReserved82 (s : State) : Host.Outcome State Fault Refusal := refuseReserved 0x82 s

/-- Reserved opcode $83 (R147). -/
def execReserved83 (s : State) : Host.Outcome State Fault Refusal := refuseReserved 0x83 s

/-- Reserved opcode $87 (R147). -/
def execReserved87 (s : State) : Host.Outcome State Fault Refusal := refuseReserved 0x87 s

/-- Reserved opcode $89 (R147). -/
def execReserved89 (s : State) : Host.Outcome State Fault Refusal := refuseReserved 0x89 s

/-- Reserved opcode $8B (R147). -/
def execReserved8B (s : State) : Host.Outcome State Fault Refusal := refuseReserved 0x8B s

/-- Reserved opcode $8F (R147). -/
def execReserved8F (s : State) : Host.Outcome State Fault Refusal := refuseReserved 0x8F s

/-- Reserved opcode $92 (R147). -/
def execReserved92 (s : State) : Host.Outcome State Fault Refusal := refuseReserved 0x92 s

/-- Reserved opcode $93 (R147). -/
def execReserved93 (s : State) : Host.Outcome State Fault Refusal := refuseReserved 0x93 s

/-- Reserved opcode $97 (R147). -/
def execReserved97 (s : State) : Host.Outcome State Fault Refusal := refuseReserved 0x97 s

/-- Reserved opcode $9B (R147). -/
def execReserved9B (s : State) : Host.Outcome State Fault Refusal := refuseReserved 0x9B s

/-- Reserved opcode $9C (R147). -/
def execReserved9C (s : State) : Host.Outcome State Fault Refusal := refuseReserved 0x9C s

/-- Reserved opcode $9E (R147). -/
def execReserved9E (s : State) : Host.Outcome State Fault Refusal := refuseReserved 0x9E s

/-- Reserved opcode $9F (R147). -/
def execReserved9F (s : State) : Host.Outcome State Fault Refusal := refuseReserved 0x9F s

/-- Reserved opcode $A3 (R147). -/
def execReservedA3 (s : State) : Host.Outcome State Fault Refusal := refuseReserved 0xA3 s

/-- Reserved opcode $A7 (R147). -/
def execReservedA7 (s : State) : Host.Outcome State Fault Refusal := refuseReserved 0xA7 s

/-- Reserved opcode $AB (R147). -/
def execReservedAB (s : State) : Host.Outcome State Fault Refusal := refuseReserved 0xAB s

/-- Reserved opcode $AF (R147). -/
def execReservedAF (s : State) : Host.Outcome State Fault Refusal := refuseReserved 0xAF s

/-- Reserved opcode $B2 (R147). -/
def execReservedB2 (s : State) : Host.Outcome State Fault Refusal := refuseReserved 0xB2 s

/-- Reserved opcode $B3 (R147). -/
def execReservedB3 (s : State) : Host.Outcome State Fault Refusal := refuseReserved 0xB3 s

/-- Reserved opcode $B7 (R147). -/
def execReservedB7 (s : State) : Host.Outcome State Fault Refusal := refuseReserved 0xB7 s

/-- Reserved opcode $BB (R147). -/
def execReservedBB (s : State) : Host.Outcome State Fault Refusal := refuseReserved 0xBB s

/-- Reserved opcode $BF (R147). -/
def execReservedBF (s : State) : Host.Outcome State Fault Refusal := refuseReserved 0xBF s

/-- Reserved opcode $C2 (R147). -/
def execReservedC2 (s : State) : Host.Outcome State Fault Refusal := refuseReserved 0xC2 s

/-- Reserved opcode $C3 (R147). -/
def execReservedC3 (s : State) : Host.Outcome State Fault Refusal := refuseReserved 0xC3 s

/-- Reserved opcode $C7 (R147). -/
def execReservedC7 (s : State) : Host.Outcome State Fault Refusal := refuseReserved 0xC7 s

/-- Reserved opcode $CB (R147). -/
def execReservedCB (s : State) : Host.Outcome State Fault Refusal := refuseReserved 0xCB s

/-- Reserved opcode $CF (R147). -/
def execReservedCF (s : State) : Host.Outcome State Fault Refusal := refuseReserved 0xCF s

/-- Reserved opcode $D2 (R147). -/
def execReservedD2 (s : State) : Host.Outcome State Fault Refusal := refuseReserved 0xD2 s

/-- Reserved opcode $D3 (R147). -/
def execReservedD3 (s : State) : Host.Outcome State Fault Refusal := refuseReserved 0xD3 s

/-- Reserved opcode $D4 (R147). -/
def execReservedD4 (s : State) : Host.Outcome State Fault Refusal := refuseReserved 0xD4 s

/-- Reserved opcode $D7 (R147). -/
def execReservedD7 (s : State) : Host.Outcome State Fault Refusal := refuseReserved 0xD7 s

/-- Reserved opcode $DA (R147). -/
def execReservedDA (s : State) : Host.Outcome State Fault Refusal := refuseReserved 0xDA s

/-- Reserved opcode $DB (R147). -/
def execReservedDB (s : State) : Host.Outcome State Fault Refusal := refuseReserved 0xDB s

/-- Reserved opcode $DC (R147). -/
def execReservedDC (s : State) : Host.Outcome State Fault Refusal := refuseReserved 0xDC s

/-- Reserved opcode $DF (R147). -/
def execReservedDF (s : State) : Host.Outcome State Fault Refusal := refuseReserved 0xDF s

/-- Reserved opcode $E2 (R147). -/
def execReservedE2 (s : State) : Host.Outcome State Fault Refusal := refuseReserved 0xE2 s

/-- Reserved opcode $E3 (R147). -/
def execReservedE3 (s : State) : Host.Outcome State Fault Refusal := refuseReserved 0xE3 s

/-- Reserved opcode $E7 (R147). -/
def execReservedE7 (s : State) : Host.Outcome State Fault Refusal := refuseReserved 0xE7 s

/-- Reserved opcode $EB (R147). -/
def execReservedEB (s : State) : Host.Outcome State Fault Refusal := refuseReserved 0xEB s

/-- Reserved opcode $EF (R147). -/
def execReservedEF (s : State) : Host.Outcome State Fault Refusal := refuseReserved 0xEF s

/-- Reserved opcode $F2 (R147). -/
def execReservedF2 (s : State) : Host.Outcome State Fault Refusal := refuseReserved 0xF2 s

/-- Reserved opcode $F3 (R147). -/
def execReservedF3 (s : State) : Host.Outcome State Fault Refusal := refuseReserved 0xF3 s

/-- Reserved opcode $F4 (R147). -/
def execReservedF4 (s : State) : Host.Outcome State Fault Refusal := refuseReserved 0xF4 s

/-- Reserved opcode $F7 (R147). -/
def execReservedF7 (s : State) : Host.Outcome State Fault Refusal := refuseReserved 0xF7 s

/-- Reserved opcode $FA (R147). -/
def execReservedFA (s : State) : Host.Outcome State Fault Refusal := refuseReserved 0xFA s

/-- Reserved opcode $FB (R147). -/
def execReservedFB (s : State) : Host.Outcome State Fault Refusal := refuseReserved 0xFB s

/-- Reserved opcode $FC (R147). -/
def execReservedFC (s : State) : Host.Outcome State Fault Refusal := refuseReserved 0xFC s

/-- Reserved opcode $FF (R147). -/
def execReservedFF (s : State) : Host.Outcome State Fault Refusal := refuseReserved 0xFF s

end Sys2Proof.Machine
end

