-- ==== Sys2Proof/Machine/TubeAccess.lean ====
section
/-! DEFINITION. The 32 Tube register accesses of both sides as meanings: each is one atomic transition of the Tube (R551; log entry 16). -/

namespace Sys2Proof.Machine

/-- A host read of Tube register `r`. -/
def tubeHostReadAt (r : Word) (x : Byte × Tube) (s : State) : Host.Outcome State Fault Refusal :=
  .next (({ s with tube := x.2 } : State).latch (regAddr s.cfg.tubeBase 7 r) x.1 true)

/-- A host write of Tube register `r`. -/
def tubeHostWriteAt (r : Word) (d : Byte) (t : Tube) (s : State) : Host.Outcome State Fault Refusal :=
  .next (({ s with tube := t } : State).latch (regAddr s.cfg.tubeBase 7 r) d false)

/-- A parasite read: the byte goes to the parasite, the host's bus is not used (R104). -/
def tubeParasiteReadAt (x : Byte × Tube) (s : State) : Host.Outcome State Fault Refusal :=
  .next { s with tube := Tube.deliver x }

/-- A parasite write. -/
def tubeParasiteWriteAt (t : Tube) (s : State) : Host.Outcome State Fault Refusal := .next { s with tube := t }

/-- Host read of Tube register 0 (R552). -/
def execTubeHostRead0 (s : State) : Host.Outcome State Fault Refusal :=
  tubeHostReadAt 0 (s.tube.hostRead0) s

/-- Host write of Tube register 0 (R553). -/
def execTubeHostWrite0 (v : Byte) (s : State) : Host.Outcome State Fault Refusal :=
  tubeHostWriteAt 0 v (s.tube.hostWrite0 s.cfg v) s

/-- Parasite read of Tube register 0 (R552). -/
def execTubeParasiteRead0 (s : State) : Host.Outcome State Fault Refusal :=
  tubeParasiteReadAt (s.tube.parasiteRead0) s

/-- Parasite write of Tube register 0 (R583). -/
def execTubeParasiteWrite0 (v : Byte) (s : State) : Host.Outcome State Fault Refusal :=
  tubeParasiteWriteAt (s.tube.ignoreWrite v) s

/-- Host read of Tube register 1 (R558). -/
def execTubeHostRead1 (s : State) : Host.Outcome State Fault Refusal :=
  tubeHostReadAt 1 (s.tube.hostRead1 s.cfg) s

/-- Host write of Tube register 1 (R557). -/
def execTubeHostWrite1 (v : Byte) (s : State) : Host.Outcome State Fault Refusal :=
  tubeHostWriteAt 1 v (s.tube.hostWrite1 s.cfg v) s

/-- Parasite read of Tube register 1 (R560). -/
def execTubeParasiteRead1 (s : State) : Host.Outcome State Fault Refusal :=
  tubeParasiteReadAt (s.tube.parasiteRead1 s.cfg) s

/-- Parasite write of Tube register 1 (R559). -/
def execTubeParasiteWrite1 (v : Byte) (s : State) : Host.Outcome State Fault Refusal :=
  tubeParasiteWriteAt (s.tube.parasiteWrite1 s.cfg v) s

/-- Host read of Tube register 2 (R554). -/
def execTubeHostRead2 (s : State) : Host.Outcome State Fault Refusal :=
  tubeHostReadAt 2 (s.tube.hostRead2) s

/-- Host write of Tube register 2 (R583). -/
def execTubeHostWrite2 (v : Byte) (s : State) : Host.Outcome State Fault Refusal :=
  tubeHostWriteAt 2 v (s.tube.ignoreWrite v) s

/-- Parasite read of Tube register 2 (R554). -/
def execTubeParasiteRead2 (s : State) : Host.Outcome State Fault Refusal :=
  tubeParasiteReadAt (s.tube.parasiteRead2) s

/-- Parasite write of Tube register 2 (R583). -/
def execTubeParasiteWrite2 (v : Byte) (s : State) : Host.Outcome State Fault Refusal :=
  tubeParasiteWriteAt (s.tube.ignoreWrite v) s

/-- Host read of Tube register 3 (R562). -/
def execTubeHostRead3 (s : State) : Host.Outcome State Fault Refusal :=
  tubeHostReadAt 3 (s.tube.hostRead3 s.cfg) s

/-- Host write of Tube register 3 (R561). -/
def execTubeHostWrite3 (v : Byte) (s : State) : Host.Outcome State Fault Refusal :=
  tubeHostWriteAt 3 v (s.tube.hostWrite3 s.cfg v) s

/-- Parasite read of Tube register 3 (R564). -/
def execTubeParasiteRead3 (s : State) : Host.Outcome State Fault Refusal :=
  tubeParasiteReadAt (s.tube.parasiteRead3 s.cfg) s

/-- Parasite write of Tube register 3 (R563). -/
def execTubeParasiteWrite3 (v : Byte) (s : State) : Host.Outcome State Fault Refusal :=
  tubeParasiteWriteAt (s.tube.parasiteWrite3 s.cfg v) s

/-- Host read of Tube register 4 (R554). -/
def execTubeHostRead4 (s : State) : Host.Outcome State Fault Refusal :=
  tubeHostReadAt 4 (s.tube.hostRead4) s

/-- Host write of Tube register 4 (R583). -/
def execTubeHostWrite4 (v : Byte) (s : State) : Host.Outcome State Fault Refusal :=
  tubeHostWriteAt 4 v (s.tube.ignoreWrite v) s

/-- Parasite read of Tube register 4 (R554). -/
def execTubeParasiteRead4 (s : State) : Host.Outcome State Fault Refusal :=
  tubeParasiteReadAt (s.tube.parasiteRead4) s

/-- Parasite write of Tube register 4 (R583). -/
def execTubeParasiteWrite4 (v : Byte) (s : State) : Host.Outcome State Fault Refusal :=
  tubeParasiteWriteAt (s.tube.ignoreWrite v) s

/-- Host read of Tube register 5 (R568). -/
def execTubeHostRead5 (s : State) : Host.Outcome State Fault Refusal :=
  tubeHostReadAt 5 (s.tube.hostRead5 s.cfg) s

/-- Host write of Tube register 5 (R567). -/
def execTubeHostWrite5 (v : Byte) (s : State) : Host.Outcome State Fault Refusal :=
  tubeHostWriteAt 5 v (s.tube.hostWrite5 s.cfg v) s

/-- Parasite read of Tube register 5 (R570). -/
def execTubeParasiteRead5 (s : State) : Host.Outcome State Fault Refusal :=
  tubeParasiteReadAt (s.tube.parasiteRead5 s.cfg) s

/-- Parasite write of Tube register 5 (R569). -/
def execTubeParasiteWrite5 (v : Byte) (s : State) : Host.Outcome State Fault Refusal :=
  tubeParasiteWriteAt (s.tube.parasiteWrite5 s.cfg v) s

/-- Host read of Tube register 6 (R554). -/
def execTubeHostRead6 (s : State) : Host.Outcome State Fault Refusal :=
  tubeHostReadAt 6 (s.tube.hostRead6) s

/-- Host write of Tube register 6 (R583). -/
def execTubeHostWrite6 (v : Byte) (s : State) : Host.Outcome State Fault Refusal :=
  tubeHostWriteAt 6 v (s.tube.ignoreWrite v) s

/-- Parasite read of Tube register 6 (R554). -/
def execTubeParasiteRead6 (s : State) : Host.Outcome State Fault Refusal :=
  tubeParasiteReadAt (s.tube.parasiteRead6) s

/-- Parasite write of Tube register 6 (R583). -/
def execTubeParasiteWrite6 (v : Byte) (s : State) : Host.Outcome State Fault Refusal :=
  tubeParasiteWriteAt (s.tube.ignoreWrite v) s

/-- Host read of Tube register 7 (R573). -/
def execTubeHostRead7 (s : State) : Host.Outcome State Fault Refusal :=
  tubeHostReadAt 7 (s.tube.hostRead7 s.cfg) s

/-- Host write of Tube register 7 (R572). -/
def execTubeHostWrite7 (v : Byte) (s : State) : Host.Outcome State Fault Refusal :=
  tubeHostWriteAt 7 v (s.tube.hostWrite7 s.cfg v) s

/-- Parasite read of Tube register 7 (R575). -/
def execTubeParasiteRead7 (s : State) : Host.Outcome State Fault Refusal :=
  tubeParasiteReadAt (s.tube.parasiteRead7 s.cfg) s

/-- Parasite write of Tube register 7 (R574). -/
def execTubeParasiteWrite7 (v : Byte) (s : State) : Host.Outcome State Fault Refusal :=
  tubeParasiteWriteAt (s.tube.parasiteWrite7 s.cfg v) s

end Sys2Proof.Machine
end

