-- ==== Sys2Proof/Machine/ViaAccess.lean ====
section
/-! DEFINITION. The 32 VIA register accesses of the opcode table as meanings: each is the access itself, the part of a CPU bus cycle
between its leading and its trailing edges (R104, R401; log entry 16). -/

namespace Sys2Proof.Machine

/-- A read access of register `r` answered with a byte and the VIA after it: the CPU's access of one bus cycle (R104),
with the bus latches it leaves (R25). -/
def viaReadAt (id : ViaId) (r : Word) (x : Byte × Via) (s : State) : Host.Outcome State Fault Refusal :=
  .next ((s.setVia id x.2).latch (regAddr (viaBase s.cfg id) 15 r) x.1 true)

/-- A write access of register `r` with the VIA after it. -/
def viaWriteAt (id : ViaId) (r : Word) (d : Byte) (v : Via) (s : State) : Host.Outcome State Fault Refusal :=
  .next ((s.setVia id v).latch (regAddr (viaBase s.cfg id) 15 r) d false)

/-- Read VIA register $0 (R410). -/
def execViaReadOrb (id : ViaId) (s : State) : Host.Outcome State Fault Refusal :=
  viaReadAt id 0 ((s.via id).readOrb) s

/-- Write VIA register $0 (R411). -/
def execViaWriteOrb (id : ViaId) (v : Byte) (s : State) : Host.Outcome State Fault Refusal :=
  viaWriteAt id 0 v ((s.via id).writeOrb s.cfg v) s

/-- Read VIA register $1 (R412). -/
def execViaReadOra (id : ViaId) (s : State) : Host.Outcome State Fault Refusal :=
  viaReadAt id 1 ((s.via id).readOra s.cfg) s

/-- Write VIA register $1 (R414). -/
def execViaWriteOra (id : ViaId) (v : Byte) (s : State) : Host.Outcome State Fault Refusal :=
  viaWriteAt id 1 v ((s.via id).writeOra s.cfg v) s

/-- Read VIA register $2 (R416). -/
def execViaReadDdrb (id : ViaId) (s : State) : Host.Outcome State Fault Refusal :=
  viaReadAt id 2 ((s.via id).readDdrb) s

/-- Write VIA register $2 (R416). -/
def execViaWriteDdrb (id : ViaId) (v : Byte) (s : State) : Host.Outcome State Fault Refusal :=
  viaWriteAt id 2 v ((s.via id).writeDdrb v) s

/-- Read VIA register $3 (R417). -/
def execViaReadDdra (id : ViaId) (s : State) : Host.Outcome State Fault Refusal :=
  viaReadAt id 3 ((s.via id).readDdra) s

/-- Write VIA register $3 (R417). -/
def execViaWriteDdra (id : ViaId) (v : Byte) (s : State) : Host.Outcome State Fault Refusal :=
  viaWriteAt id 3 v ((s.via id).writeDdra v) s

/-- Read VIA register $4 (R420). -/
def execViaReadT1cl (id : ViaId) (s : State) : Host.Outcome State Fault Refusal :=
  viaReadAt id 4 ((s.via id).readT1cl) s

/-- Write VIA register $4 (R421). -/
def execViaWriteT1cl (id : ViaId) (v : Byte) (s : State) : Host.Outcome State Fault Refusal :=
  viaWriteAt id 4 v ((s.via id).writeT1cl v) s

/-- Read VIA register $5 (R422). -/
def execViaReadT1ch (id : ViaId) (s : State) : Host.Outcome State Fault Refusal :=
  viaReadAt id 5 ((s.via id).readT1ch) s

/-- Write VIA register $5 (R423). -/
def execViaWriteT1ch (id : ViaId) (v : Byte) (s : State) : Host.Outcome State Fault Refusal :=
  viaWriteAt id 5 v ((s.via id).writeT1ch v) s

/-- Read VIA register $6 (R424). -/
def execViaReadT1ll (id : ViaId) (s : State) : Host.Outcome State Fault Refusal :=
  viaReadAt id 6 ((s.via id).readT1ll) s

/-- Write VIA register $6 (R424). -/
def execViaWriteT1ll (id : ViaId) (v : Byte) (s : State) : Host.Outcome State Fault Refusal :=
  viaWriteAt id 6 v ((s.via id).writeT1ll v) s

/-- Read VIA register $7 (R425). -/
def execViaReadT1lh (id : ViaId) (s : State) : Host.Outcome State Fault Refusal :=
  viaReadAt id 7 ((s.via id).readT1lh) s

/-- Write VIA register $7 (R426). -/
def execViaWriteT1lh (id : ViaId) (v : Byte) (s : State) : Host.Outcome State Fault Refusal :=
  viaWriteAt id 7 v ((s.via id).writeT1lh v) s

/-- Read VIA register $8 (R428). -/
def execViaReadT2cl (id : ViaId) (s : State) : Host.Outcome State Fault Refusal :=
  viaReadAt id 8 ((s.via id).readT2cl) s

/-- Write VIA register $8 (R427). -/
def execViaWriteT2cl (id : ViaId) (v : Byte) (s : State) : Host.Outcome State Fault Refusal :=
  viaWriteAt id 8 v ((s.via id).writeT2cl v) s

/-- Read VIA register $9 (R429). -/
def execViaReadT2ch (id : ViaId) (s : State) : Host.Outcome State Fault Refusal :=
  viaReadAt id 9 ((s.via id).readT2ch) s

/-- Write VIA register $9 (R430). -/
def execViaWriteT2ch (id : ViaId) (v : Byte) (s : State) : Host.Outcome State Fault Refusal :=
  viaWriteAt id 9 v ((s.via id).writeT2ch v) s

/-- Read VIA register $A (R431). -/
def execViaReadSr (id : ViaId) (s : State) : Host.Outcome State Fault Refusal :=
  viaReadAt id 10 ((s.via id).readSr) s

/-- Write VIA register $A (R431). -/
def execViaWriteSr (id : ViaId) (v : Byte) (s : State) : Host.Outcome State Fault Refusal :=
  viaWriteAt id 10 v ((s.via id).writeSr v) s

/-- Read VIA register $B (R432). -/
def execViaReadAcr (id : ViaId) (s : State) : Host.Outcome State Fault Refusal :=
  viaReadAt id 11 ((s.via id).readAcr) s

/-- Write VIA register $B (R433). -/
def execViaWriteAcr (id : ViaId) (v : Byte) (s : State) : Host.Outcome State Fault Refusal :=
  viaWriteAt id 11 v ((s.via id).writeAcr v) s

/-- Read VIA register $C (R434). -/
def execViaReadPcr (id : ViaId) (s : State) : Host.Outcome State Fault Refusal :=
  viaReadAt id 12 ((s.via id).readPcr) s

/-- Write VIA register $C (R434). -/
def execViaWritePcr (id : ViaId) (v : Byte) (s : State) : Host.Outcome State Fault Refusal :=
  viaWriteAt id 12 v ((s.via id).writePcr v) s

/-- Read VIA register $D (R440). -/
def execViaReadIfr (id : ViaId) (s : State) : Host.Outcome State Fault Refusal :=
  viaReadAt id 13 ((s.via id).readIfr) s

/-- Write VIA register $D (R441). -/
def execViaWriteIfr (id : ViaId) (v : Byte) (s : State) : Host.Outcome State Fault Refusal :=
  viaWriteAt id 13 v ((s.via id).writeIfr v) s

/-- Read VIA register $E (R442). -/
def execViaReadIer (id : ViaId) (s : State) : Host.Outcome State Fault Refusal :=
  viaReadAt id 14 ((s.via id).readIer) s

/-- Write VIA register $E (R443). -/
def execViaWriteIer (id : ViaId) (v : Byte) (s : State) : Host.Outcome State Fault Refusal :=
  viaWriteAt id 14 v ((s.via id).writeIer v) s

/-- Read VIA register $F (R413). -/
def execViaReadOraF (id : ViaId) (s : State) : Host.Outcome State Fault Refusal :=
  viaReadAt id 15 ((s.via id).readOraF s.cfg) s

/-- Write VIA register $F (R415). -/
def execViaWriteOraF (id : ViaId) (v : Byte) (s : State) : Host.Outcome State Fault Refusal :=
  viaWriteAt id 15 v ((s.via id).writeOraF s.cfg v) s

end Sys2Proof.Machine
end

