-- ==== Sys2Proof/Syntax.lean ====
section
/-! DEFINITION. The instructions: one constructor per row of spec/opcode_table.json. The 6502's 151 documented opcodes with
the operand bytes their format fetches (R141, R142), its 105 reserved opcodes (R147), the register accesses of a VIA (R160),
of the FDC with its command bytes (R165, R166), and of both sides of the Tube (R175). -/

namespace Sys2Proof

/-- Every instruction and register access of the opcode table. -/
inductive Instr where
  /-- `ORA (b,X)`, opcode $01 (R293). -/
  | oraIndx (b : Byte)
  /-- `ORA b`, opcode $05 (R293). -/
  | oraZp (b : Byte)
  /-- `ASL b`, opcode $06 (R305). -/
  | aslZp (b : Byte)
  /-- `ORA #v`, opcode $09 (R293). -/
  | oraImm (v : Byte)
  /-- `ORA w`, opcode $0D (R293). -/
  | oraAbs (w : Word)
  /-- `ASL w`, opcode $0E (R305). -/
  | aslAbs (w : Word)
  /-- `BPL off`, opcode $10 (R363). -/
  | bpl (off : Byte)
  /-- `ORA (b),Y`, opcode $11 (R293). -/
  | oraIndy (b : Byte)
  /-- `ORA b,X`, opcode $15 (R293). -/
  | oraZpx (b : Byte)
  /-- `ASL b,X`, opcode $16 (R305). -/
  | aslZpx (b : Byte)
  /-- `ORA w,Y`, opcode $19 (R293). -/
  | oraAbsy (w : Word)
  /-- `ORA w,X`, opcode $1D (R293). -/
  | oraAbsx (w : Word)
  /-- `ASL w,X`, opcode $1E (R305). -/
  | aslAbsx (w : Word)
  /-- `JSR w`, opcode $20 (R352). -/
  | jsrAbs (w : Word)
  /-- `AND (b,X)`, opcode $21 (R292). -/
  | andIndx (b : Byte)
  /-- `BIT b`, opcode $24 (R298). -/
  | bitZp (b : Byte)
  /-- `AND b`, opcode $25 (R292). -/
  | andZp (b : Byte)
  /-- `ROL b`, opcode $26 (R307). -/
  | rolZp (b : Byte)
  /-- `AND #v`, opcode $29 (R292). -/
  | andImm (v : Byte)
  /-- `BIT w`, opcode $2C (R298). -/
  | bitAbs (w : Word)
  /-- `AND w`, opcode $2D (R292). -/
  | andAbs (w : Word)
  /-- `ROL w`, opcode $2E (R307). -/
  | rolAbs (w : Word)
  /-- `BMI off`, opcode $30 (R362). -/
  | bmi (off : Byte)
  /-- `AND (b),Y`, opcode $31 (R292). -/
  | andIndy (b : Byte)
  /-- `AND b,X`, opcode $35 (R292). -/
  | andZpx (b : Byte)
  /-- `ROL b,X`, opcode $36 (R307). -/
  | rolZpx (b : Byte)
  /-- `AND w,Y`, opcode $39 (R292). -/
  | andAbsy (w : Word)
  /-- `AND w,X`, opcode $3D (R292). -/
  | andAbsx (w : Word)
  /-- `ROL w,X`, opcode $3E (R307). -/
  | rolAbsx (w : Word)
  /-- `EOR (b,X)`, opcode $41 (R294). -/
  | eorIndx (b : Byte)
  /-- `EOR b`, opcode $45 (R294). -/
  | eorZp (b : Byte)
  /-- `LSR b`, opcode $46 (R306). -/
  | lsrZp (b : Byte)
  /-- `EOR #v`, opcode $49 (R294). -/
  | eorImm (v : Byte)
  /-- `JMP w`, opcode $4C (R350). -/
  | jmpAbs (w : Word)
  /-- `EOR w`, opcode $4D (R294). -/
  | eorAbs (w : Word)
  /-- `LSR w`, opcode $4E (R306). -/
  | lsrAbs (w : Word)
  /-- `BVC off`, opcode $50 (R364). -/
  | bvc (off : Byte)
  /-- `EOR (b),Y`, opcode $51 (R294). -/
  | eorIndy (b : Byte)
  /-- `EOR b,X`, opcode $55 (R294). -/
  | eorZpx (b : Byte)
  /-- `LSR b,X`, opcode $56 (R306). -/
  | lsrZpx (b : Byte)
  /-- `EOR w,Y`, opcode $59 (R294). -/
  | eorAbsy (w : Word)
  /-- `EOR w,X`, opcode $5D (R294). -/
  | eorAbsx (w : Word)
  /-- `LSR w,X`, opcode $5E (R306). -/
  | lsrAbsx (w : Word)
  /-- `ADC (b,X)`, opcode $61 (R290). -/
  | adcIndx (b : Byte)
  /-- `ADC b`, opcode $65 (R290). -/
  | adcZp (b : Byte)
  /-- `ROR b`, opcode $66 (R308). -/
  | rorZp (b : Byte)
  /-- `ADC #v`, opcode $69 (R290). -/
  | adcImm (v : Byte)
  /-- `JMP (w)`, opcode $6C (R351). -/
  | jmpInd (w : Word)
  /-- `ADC w`, opcode $6D (R290). -/
  | adcAbs (w : Word)
  /-- `ROR w`, opcode $6E (R308). -/
  | rorAbs (w : Word)
  /-- `BVS off`, opcode $70 (R365). -/
  | bvs (off : Byte)
  /-- `ADC (b),Y`, opcode $71 (R290). -/
  | adcIndy (b : Byte)
  /-- `ADC b,X`, opcode $75 (R290). -/
  | adcZpx (b : Byte)
  /-- `ROR b,X`, opcode $76 (R308). -/
  | rorZpx (b : Byte)
  /-- `ADC w,Y`, opcode $79 (R290). -/
  | adcAbsy (w : Word)
  /-- `ADC w,X`, opcode $7D (R290). -/
  | adcAbsx (w : Word)
  /-- `ROR w,X`, opcode $7E (R308). -/
  | rorAbsx (w : Word)
  /-- `STA (b,X)`, opcode $81 (R253). -/
  | staIndx (b : Byte)
  /-- `STY b`, opcode $84 (R255). -/
  | styZp (b : Byte)
  /-- `STA b`, opcode $85 (R253). -/
  | staZp (b : Byte)
  /-- `STX b`, opcode $86 (R254). -/
  | stxZp (b : Byte)
  /-- `STY w`, opcode $8C (R255). -/
  | styAbs (w : Word)
  /-- `STA w`, opcode $8D (R253). -/
  | staAbs (w : Word)
  /-- `STX w`, opcode $8E (R254). -/
  | stxAbs (w : Word)
  /-- `BCC off`, opcode $90 (R358). -/
  | bcc (off : Byte)
  /-- `STA (b),Y`, opcode $91 (R253). -/
  | staIndy (b : Byte)
  /-- `STY b,X`, opcode $94 (R255). -/
  | styZpx (b : Byte)
  /-- `STA b,X`, opcode $95 (R253). -/
  | staZpx (b : Byte)
  /-- `STX b,Y`, opcode $96 (R254). -/
  | stxZpy (b : Byte)
  /-- `STA w,Y`, opcode $99 (R253). -/
  | staAbsy (w : Word)
  /-- `STA w,X`, opcode $9D (R253). -/
  | staAbsx (w : Word)
  /-- `LDY #v`, opcode $A0 (R252). -/
  | ldyImm (v : Byte)
  /-- `LDA (b,X)`, opcode $A1 (R250). -/
  | ldaIndx (b : Byte)
  /-- `LDX #v`, opcode $A2 (R251). -/
  | ldxImm (v : Byte)
  /-- `LDY b`, opcode $A4 (R252). -/
  | ldyZp (b : Byte)
  /-- `LDA b`, opcode $A5 (R250). -/
  | ldaZp (b : Byte)
  /-- `LDX b`, opcode $A6 (R251). -/
  | ldxZp (b : Byte)
  /-- `LDA #v`, opcode $A9 (R250). -/
  | ldaImm (v : Byte)
  /-- `LDY w`, opcode $AC (R252). -/
  | ldyAbs (w : Word)
  /-- `LDA w`, opcode $AD (R250). -/
  | ldaAbs (w : Word)
  /-- `LDX w`, opcode $AE (R251). -/
  | ldxAbs (w : Word)
  /-- `BCS off`, opcode $B0 (R359). -/
  | bcs (off : Byte)
  /-- `LDA (b),Y`, opcode $B1 (R250). -/
  | ldaIndy (b : Byte)
  /-- `LDY b,X`, opcode $B4 (R252). -/
  | ldyZpx (b : Byte)
  /-- `LDA b,X`, opcode $B5 (R250). -/
  | ldaZpx (b : Byte)
  /-- `LDX b,Y`, opcode $B6 (R251). -/
  | ldxZpy (b : Byte)
  /-- `LDA w,Y`, opcode $B9 (R250). -/
  | ldaAbsy (w : Word)
  /-- `LDY w,X`, opcode $BC (R252). -/
  | ldyAbsx (w : Word)
  /-- `LDA w,X`, opcode $BD (R250). -/
  | ldaAbsx (w : Word)
  /-- `LDX w,Y`, opcode $BE (R251). -/
  | ldxAbsy (w : Word)
  /-- `CPY #v`, opcode $C0 (R297). -/
  | cpyImm (v : Byte)
  /-- `CMP (b,X)`, opcode $C1 (R295). -/
  | cmpIndx (b : Byte)
  /-- `CPY b`, opcode $C4 (R297). -/
  | cpyZp (b : Byte)
  /-- `CMP b`, opcode $C5 (R295). -/
  | cmpZp (b : Byte)
  /-- `DEC b`, opcode $C6 (R300). -/
  | decZp (b : Byte)
  /-- `CMP #v`, opcode $C9 (R295). -/
  | cmpImm (v : Byte)
  /-- `CPY w`, opcode $CC (R297). -/
  | cpyAbs (w : Word)
  /-- `CMP w`, opcode $CD (R295). -/
  | cmpAbs (w : Word)
  /-- `DEC w`, opcode $CE (R300). -/
  | decAbs (w : Word)
  /-- `BNE off`, opcode $D0 (R361). -/
  | bne (off : Byte)
  /-- `CMP (b),Y`, opcode $D1 (R295). -/
  | cmpIndy (b : Byte)
  /-- `CMP b,X`, opcode $D5 (R295). -/
  | cmpZpx (b : Byte)
  /-- `DEC b,X`, opcode $D6 (R300). -/
  | decZpx (b : Byte)
  /-- `CMP w,Y`, opcode $D9 (R295). -/
  | cmpAbsy (w : Word)
  /-- `CMP w,X`, opcode $DD (R295). -/
  | cmpAbsx (w : Word)
  /-- `DEC w,X`, opcode $DE (R300). -/
  | decAbsx (w : Word)
  /-- `CPX #v`, opcode $E0 (R296). -/
  | cpxImm (v : Byte)
  /-- `SBC (b,X)`, opcode $E1 (R291). -/
  | sbcIndx (b : Byte)
  /-- `CPX b`, opcode $E4 (R296). -/
  | cpxZp (b : Byte)
  /-- `SBC b`, opcode $E5 (R291). -/
  | sbcZp (b : Byte)
  /-- `INC b`, opcode $E6 (R299). -/
  | incZp (b : Byte)
  /-- `SBC #v`, opcode $E9 (R291). -/
  | sbcImm (v : Byte)
  /-- `CPX w`, opcode $EC (R296). -/
  | cpxAbs (w : Word)
  /-- `SBC w`, opcode $ED (R291). -/
  | sbcAbs (w : Word)
  /-- `INC w`, opcode $EE (R299). -/
  | incAbs (w : Word)
  /-- `BEQ off`, opcode $F0 (R360). -/
  | beq (off : Byte)
  /-- `SBC (b),Y`, opcode $F1 (R291). -/
  | sbcIndy (b : Byte)
  /-- `SBC b,X`, opcode $F5 (R291). -/
  | sbcZpx (b : Byte)
  /-- `INC b,X`, opcode $F6 (R299). -/
  | incZpx (b : Byte)
  /-- `SBC w,Y`, opcode $F9 (R291). -/
  | sbcAbsy (w : Word)
  /-- `SBC w,X`, opcode $FD (R291). -/
  | sbcAbsx (w : Word)
  /-- `INC w,X`, opcode $FE (R299). -/
  | incAbsx (w : Word)
  /-- Read VIA register $0 (R410). -/
  | viaReadOrb (id : ViaId)
  /-- Write VIA register $0 (R411). -/
  | viaWriteOrb (id : ViaId) (v : Byte)
  /-- Read VIA register $1 (R412). -/
  | viaReadOra (id : ViaId)
  /-- Write VIA register $1 (R414). -/
  | viaWriteOra (id : ViaId) (v : Byte)
  /-- Read VIA register $2 (R416). -/
  | viaReadDdrb (id : ViaId)
  /-- Write VIA register $2 (R416). -/
  | viaWriteDdrb (id : ViaId) (v : Byte)
  /-- Read VIA register $3 (R417). -/
  | viaReadDdra (id : ViaId)
  /-- Write VIA register $3 (R417). -/
  | viaWriteDdra (id : ViaId) (v : Byte)
  /-- Read VIA register $4 (R420). -/
  | viaReadT1cl (id : ViaId)
  /-- Write VIA register $4 (R421). -/
  | viaWriteT1cl (id : ViaId) (v : Byte)
  /-- Read VIA register $5 (R422). -/
  | viaReadT1ch (id : ViaId)
  /-- Write VIA register $5 (R423). -/
  | viaWriteT1ch (id : ViaId) (v : Byte)
  /-- Read VIA register $6 (R424). -/
  | viaReadT1ll (id : ViaId)
  /-- Write VIA register $6 (R424). -/
  | viaWriteT1ll (id : ViaId) (v : Byte)
  /-- Read VIA register $7 (R425). -/
  | viaReadT1lh (id : ViaId)
  /-- Write VIA register $7 (R426). -/
  | viaWriteT1lh (id : ViaId) (v : Byte)
  /-- Read VIA register $8 (R428). -/
  | viaReadT2cl (id : ViaId)
  /-- Write VIA register $8 (R427). -/
  | viaWriteT2cl (id : ViaId) (v : Byte)
  /-- Read VIA register $9 (R429). -/
  | viaReadT2ch (id : ViaId)
  /-- Write VIA register $9 (R430). -/
  | viaWriteT2ch (id : ViaId) (v : Byte)
  /-- Read VIA register $A (R431). -/
  | viaReadSr (id : ViaId)
  /-- Write VIA register $A (R431). -/
  | viaWriteSr (id : ViaId) (v : Byte)
  /-- Read VIA register $B (R432). -/
  | viaReadAcr (id : ViaId)
  /-- Write VIA register $B (R433). -/
  | viaWriteAcr (id : ViaId) (v : Byte)
  /-- Read VIA register $C (R434). -/
  | viaReadPcr (id : ViaId)
  /-- Write VIA register $C (R434). -/
  | viaWritePcr (id : ViaId) (v : Byte)
  /-- Read VIA register $D (R440). -/
  | viaReadIfr (id : ViaId)
  /-- Write VIA register $D (R441). -/
  | viaWriteIfr (id : ViaId) (v : Byte)
  /-- Read VIA register $E (R442). -/
  | viaReadIer (id : ViaId)
  /-- Write VIA register $E (R443). -/
  | viaWriteIer (id : ViaId) (v : Byte)
  /-- Read VIA register $F (R413). -/
  | viaReadOraF (id : ViaId)
  /-- Write VIA register $F (R415). -/
  | viaWriteOraF (id : ViaId) (v : Byte)
  /-- Write FDC register 0 (R487). -/
  | fdcWriteCommand (v : Byte)
  /-- Write FDC register 1 (R488). -/
  | fdcWriteTrack (v : Byte)
  /-- Write FDC register 2 (R488). -/
  | fdcWriteSector (v : Byte)
  /-- Write FDC register 3 (R490). -/
  | fdcWriteData (v : Byte)
  /-- Command byte `v`: Restore (R500). -/
  | fdcCmdRestore (v : Byte)
  /-- Command byte `v`: Seek (R501). -/
  | fdcCmdSeek (v : Byte)
  /-- Command byte `v`: Step (R502). -/
  | fdcCmdStep (v : Byte)
  /-- Command byte `v`: Step-In (R503). -/
  | fdcCmdStepIn (v : Byte)
  /-- Command byte `v`: Step-Out (R504). -/
  | fdcCmdStepOut (v : Byte)
  /-- Command byte `v`: Read Sector (R510). -/
  | fdcCmdReadSector (v : Byte)
  /-- Command byte `v`: Write Sector (R511). -/
  | fdcCmdWriteSector (v : Byte)
  /-- Command byte `v`: Read Address (R520). -/
  | fdcCmdReadAddress (v : Byte)
  /-- Command byte `v`: Force Interrupt (R525). -/
  | fdcCmdForceInterrupt (v : Byte)
  /-- Command byte `v`: Read Track (R521). -/
  | fdcCmdReadTrack (v : Byte)
  /-- Command byte `v`: Write Track (R522). -/
  | fdcCmdWriteTrack (v : Byte)
  /-- Host write of Tube register 0 (R553). -/
  | tubeHostWrite0 (v : Byte)
  /-- Parasite write of Tube register 0 (R583). -/
  | tubeParasiteWrite0 (v : Byte)
  /-- Host write of Tube register 1 (R557). -/
  | tubeHostWrite1 (v : Byte)
  /-- Parasite write of Tube register 1 (R559). -/
  | tubeParasiteWrite1 (v : Byte)
  /-- Host write of Tube register 2 (R583). -/
  | tubeHostWrite2 (v : Byte)
  /-- Parasite write of Tube register 2 (R583). -/
  | tubeParasiteWrite2 (v : Byte)
  /-- Host write of Tube register 3 (R561). -/
  | tubeHostWrite3 (v : Byte)
  /-- Parasite write of Tube register 3 (R563). -/
  | tubeParasiteWrite3 (v : Byte)
  /-- Host write of Tube register 4 (R583). -/
  | tubeHostWrite4 (v : Byte)
  /-- Parasite write of Tube register 4 (R583). -/
  | tubeParasiteWrite4 (v : Byte)
  /-- Host write of Tube register 5 (R567). -/
  | tubeHostWrite5 (v : Byte)
  /-- Parasite write of Tube register 5 (R569). -/
  | tubeParasiteWrite5 (v : Byte)
  /-- Host write of Tube register 6 (R583). -/
  | tubeHostWrite6 (v : Byte)
  /-- Parasite write of Tube register 6 (R583). -/
  | tubeParasiteWrite6 (v : Byte)
  /-- Host write of Tube register 7 (R572). -/
  | tubeHostWrite7 (v : Byte)
  /-- Parasite write of Tube register 7 (R574). -/
  | tubeParasiteWrite7 (v : Byte)
  /-- `BRK`, opcode $00 (R355). -/
  | brk
  /-- `PHP`, opcode $08 (R263). -/
  | php
  /-- `ASL A`, opcode $0A (R305). -/
  | aslAcc
  /-- `CLC`, opcode $18 (R366). -/
  | clc
  /-- `PLP`, opcode $28 (R265). -/
  | plp
  /-- `ROL A`, opcode $2A (R307). -/
  | rolAcc
  /-- `SEC`, opcode $38 (R367). -/
  | sec
  /-- `RTI`, opcode $40 (R354). -/
  | rti
  /-- `PHA`, opcode $48 (R262). -/
  | pha
  /-- `LSR A`, opcode $4A (R306). -/
  | lsrAcc
  /-- `CLI`, opcode $58 (R368). -/
  | cli
  /-- `RTS`, opcode $60 (R353). -/
  | rts
  /-- `PLA`, opcode $68 (R264). -/
  | pla
  /-- `ROR A`, opcode $6A (R308). -/
  | rorAcc
  /-- `SEI`, opcode $78 (R369). -/
  | sei
  /-- `DEY`, opcode $88 (R304). -/
  | dey
  /-- `TXA`, opcode $8A (R258). -/
  | txa
  /-- `TYA`, opcode $98 (R259). -/
  | tya
  /-- `TXS`, opcode $9A (R261). -/
  | txs
  /-- `TAY`, opcode $A8 (R257). -/
  | tay
  /-- `TAX`, opcode $AA (R256). -/
  | tax
  /-- `CLV`, opcode $B8 (R372). -/
  | clv
  /-- `TSX`, opcode $BA (R260). -/
  | tsx
  /-- `INY`, opcode $C8 (R302). -/
  | iny
  /-- `DEX`, opcode $CA (R303). -/
  | dex
  /-- `CLD`, opcode $D8 (R370). -/
  | cld
  /-- `INX`, opcode $E8 (R301). -/
  | inx
  /-- `NOP`, opcode $EA (R356). -/
  | nop
  /-- `SED`, opcode $F8 (R371). -/
  | sed
  /-- Reserved opcode $02 (R147). -/
  | reserved02
  /-- Reserved opcode $03 (R147). -/
  | reserved03
  /-- Reserved opcode $04 (R147). -/
  | reserved04
  /-- Reserved opcode $07 (R147). -/
  | reserved07
  /-- Reserved opcode $0B (R147). -/
  | reserved0B
  /-- Reserved opcode $0C (R147). -/
  | reserved0C
  /-- Reserved opcode $0F (R147). -/
  | reserved0F
  /-- Reserved opcode $12 (R147). -/
  | reserved12
  /-- Reserved opcode $13 (R147). -/
  | reserved13
  /-- Reserved opcode $14 (R147). -/
  | reserved14
  /-- Reserved opcode $17 (R147). -/
  | reserved17
  /-- Reserved opcode $1A (R147). -/
  | reserved1A
  /-- Reserved opcode $1B (R147). -/
  | reserved1B
  /-- Reserved opcode $1C (R147). -/
  | reserved1C
  /-- Reserved opcode $1F (R147). -/
  | reserved1F
  /-- Reserved opcode $22 (R147). -/
  | reserved22
  /-- Reserved opcode $23 (R147). -/
  | reserved23
  /-- Reserved opcode $27 (R147). -/
  | reserved27
  /-- Reserved opcode $2B (R147). -/
  | reserved2B
  /-- Reserved opcode $2F (R147). -/
  | reserved2F
  /-- Reserved opcode $32 (R147). -/
  | reserved32
  /-- Reserved opcode $33 (R147). -/
  | reserved33
  /-- Reserved opcode $34 (R147). -/
  | reserved34
  /-- Reserved opcode $37 (R147). -/
  | reserved37
  /-- Reserved opcode $3A (R147). -/
  | reserved3A
  /-- Reserved opcode $3B (R147). -/
  | reserved3B
  /-- Reserved opcode $3C (R147). -/
  | reserved3C
  /-- Reserved opcode $3F (R147). -/
  | reserved3F
  /-- Reserved opcode $42 (R147). -/
  | reserved42
  /-- Reserved opcode $43 (R147). -/
  | reserved43
  /-- Reserved opcode $44 (R147). -/
  | reserved44
  /-- Reserved opcode $47 (R147). -/
  | reserved47
  /-- Reserved opcode $4B (R147). -/
  | reserved4B
  /-- Reserved opcode $4F (R147). -/
  | reserved4F
  /-- Reserved opcode $52 (R147). -/
  | reserved52
  /-- Reserved opcode $53 (R147). -/
  | reserved53
  /-- Reserved opcode $54 (R147). -/
  | reserved54
  /-- Reserved opcode $57 (R147). -/
  | reserved57
  /-- Reserved opcode $5A (R147). -/
  | reserved5A
  /-- Reserved opcode $5B (R147). -/
  | reserved5B
  /-- Reserved opcode $5C (R147). -/
  | reserved5C
  /-- Reserved opcode $5F (R147). -/
  | reserved5F
  /-- Reserved opcode $62 (R147). -/
  | reserved62
  /-- Reserved opcode $63 (R147). -/
  | reserved63
  /-- Reserved opcode $64 (R147). -/
  | reserved64
  /-- Reserved opcode $67 (R147). -/
  | reserved67
  /-- Reserved opcode $6B (R147). -/
  | reserved6B
  /-- Reserved opcode $6F (R147). -/
  | reserved6F
  /-- Reserved opcode $72 (R147). -/
  | reserved72
  /-- Reserved opcode $73 (R147). -/
  | reserved73
  /-- Reserved opcode $74 (R147). -/
  | reserved74
  /-- Reserved opcode $77 (R147). -/
  | reserved77
  /-- Reserved opcode $7A (R147). -/
  | reserved7A
  /-- Reserved opcode $7B (R147). -/
  | reserved7B
  /-- Reserved opcode $7C (R147). -/
  | reserved7C
  /-- Reserved opcode $7F (R147). -/
  | reserved7F
  /-- Reserved opcode $80 (R147). -/
  | reserved80
  /-- Reserved opcode $82 (R147). -/
  | reserved82
  /-- Reserved opcode $83 (R147). -/
  | reserved83
  /-- Reserved opcode $87 (R147). -/
  | reserved87
  /-- Reserved opcode $89 (R147). -/
  | reserved89
  /-- Reserved opcode $8B (R147). -/
  | reserved8B
  /-- Reserved opcode $8F (R147). -/
  | reserved8F
  /-- Reserved opcode $92 (R147). -/
  | reserved92
  /-- Reserved opcode $93 (R147). -/
  | reserved93
  /-- Reserved opcode $97 (R147). -/
  | reserved97
  /-- Reserved opcode $9B (R147). -/
  | reserved9B
  /-- Reserved opcode $9C (R147). -/
  | reserved9C
  /-- Reserved opcode $9E (R147). -/
  | reserved9E
  /-- Reserved opcode $9F (R147). -/
  | reserved9F
  /-- Reserved opcode $A3 (R147). -/
  | reservedA3
  /-- Reserved opcode $A7 (R147). -/
  | reservedA7
  /-- Reserved opcode $AB (R147). -/
  | reservedAB
  /-- Reserved opcode $AF (R147). -/
  | reservedAF
  /-- Reserved opcode $B2 (R147). -/
  | reservedB2
  /-- Reserved opcode $B3 (R147). -/
  | reservedB3
  /-- Reserved opcode $B7 (R147). -/
  | reservedB7
  /-- Reserved opcode $BB (R147). -/
  | reservedBB
  /-- Reserved opcode $BF (R147). -/
  | reservedBF
  /-- Reserved opcode $C2 (R147). -/
  | reservedC2
  /-- Reserved opcode $C3 (R147). -/
  | reservedC3
  /-- Reserved opcode $C7 (R147). -/
  | reservedC7
  /-- Reserved opcode $CB (R147). -/
  | reservedCB
  /-- Reserved opcode $CF (R147). -/
  | reservedCF
  /-- Reserved opcode $D2 (R147). -/
  | reservedD2
  /-- Reserved opcode $D3 (R147). -/
  | reservedD3
  /-- Reserved opcode $D4 (R147). -/
  | reservedD4
  /-- Reserved opcode $D7 (R147). -/
  | reservedD7
  /-- Reserved opcode $DA (R147). -/
  | reservedDA
  /-- Reserved opcode $DB (R147). -/
  | reservedDB
  /-- Reserved opcode $DC (R147). -/
  | reservedDC
  /-- Reserved opcode $DF (R147). -/
  | reservedDF
  /-- Reserved opcode $E2 (R147). -/
  | reservedE2
  /-- Reserved opcode $E3 (R147). -/
  | reservedE3
  /-- Reserved opcode $E7 (R147). -/
  | reservedE7
  /-- Reserved opcode $EB (R147). -/
  | reservedEB
  /-- Reserved opcode $EF (R147). -/
  | reservedEF
  /-- Reserved opcode $F2 (R147). -/
  | reservedF2
  /-- Reserved opcode $F3 (R147). -/
  | reservedF3
  /-- Reserved opcode $F4 (R147). -/
  | reservedF4
  /-- Reserved opcode $F7 (R147). -/
  | reservedF7
  /-- Reserved opcode $FA (R147). -/
  | reservedFA
  /-- Reserved opcode $FB (R147). -/
  | reservedFB
  /-- Reserved opcode $FC (R147). -/
  | reservedFC
  /-- Reserved opcode $FF (R147). -/
  | reservedFF
  /-- Read FDC register 0 (R486). -/
  | fdcReadStatus
  /-- Read FDC register 1 (R488). -/
  | fdcReadTrack
  /-- Read FDC register 2 (R488). -/
  | fdcReadSector
  /-- Read FDC register 3 (R489). -/
  | fdcReadData
  /-- Host read of Tube register 0 (R552). -/
  | tubeHostRead0
  /-- Parasite read of Tube register 0 (R552). -/
  | tubeParasiteRead0
  /-- Host read of Tube register 1 (R558). -/
  | tubeHostRead1
  /-- Parasite read of Tube register 1 (R560). -/
  | tubeParasiteRead1
  /-- Host read of Tube register 2 (R554). -/
  | tubeHostRead2
  /-- Parasite read of Tube register 2 (R554). -/
  | tubeParasiteRead2
  /-- Host read of Tube register 3 (R562). -/
  | tubeHostRead3
  /-- Parasite read of Tube register 3 (R564). -/
  | tubeParasiteRead3
  /-- Host read of Tube register 4 (R554). -/
  | tubeHostRead4
  /-- Parasite read of Tube register 4 (R554). -/
  | tubeParasiteRead4
  /-- Host read of Tube register 5 (R568). -/
  | tubeHostRead5
  /-- Parasite read of Tube register 5 (R570). -/
  | tubeParasiteRead5
  /-- Host read of Tube register 6 (R554). -/
  | tubeHostRead6
  /-- Parasite read of Tube register 6 (R554). -/
  | tubeParasiteRead6
  /-- Host read of Tube register 7 (R573). -/
  | tubeHostRead7
  /-- Parasite read of Tube register 7 (R575). -/
  | tubeParasiteRead7
deriving DecidableEq, Repr

end Sys2Proof
end

