-- ==== Sys2Proof/Machine/Dispatch.lean ====
section
/-! DEFINITION. One arm per constructor of `Instr`, each one direct call of the instruction's meaning. -/

namespace Sys2Proof.Machine

def exec (i : Instr) (s : State) : Host.Outcome State Fault Refusal :=
  match i with
  | .oraIndx b => Sys2Proof.Machine.execOraIndx b s
  | .oraZp b => Sys2Proof.Machine.execOraZp b s
  | .aslZp b => Sys2Proof.Machine.execAslZp b s
  | .oraImm v => Sys2Proof.Machine.execOraImm v s
  | .oraAbs w => Sys2Proof.Machine.execOraAbs w s
  | .aslAbs w => Sys2Proof.Machine.execAslAbs w s
  | .bpl off => Sys2Proof.Machine.execBpl off s
  | .oraIndy b => Sys2Proof.Machine.execOraIndy b s
  | .oraZpx b => Sys2Proof.Machine.execOraZpx b s
  | .aslZpx b => Sys2Proof.Machine.execAslZpx b s
  | .oraAbsy w => Sys2Proof.Machine.execOraAbsy w s
  | .oraAbsx w => Sys2Proof.Machine.execOraAbsx w s
  | .aslAbsx w => Sys2Proof.Machine.execAslAbsx w s
  | .jsrAbs w => Sys2Proof.Machine.execJsrAbs w s
  | .andIndx b => Sys2Proof.Machine.execAndIndx b s
  | .bitZp b => Sys2Proof.Machine.execBitZp b s
  | .andZp b => Sys2Proof.Machine.execAndZp b s
  | .rolZp b => Sys2Proof.Machine.execRolZp b s
  | .andImm v => Sys2Proof.Machine.execAndImm v s
  | .bitAbs w => Sys2Proof.Machine.execBitAbs w s
  | .andAbs w => Sys2Proof.Machine.execAndAbs w s
  | .rolAbs w => Sys2Proof.Machine.execRolAbs w s
  | .bmi off => Sys2Proof.Machine.execBmi off s
  | .andIndy b => Sys2Proof.Machine.execAndIndy b s
  | .andZpx b => Sys2Proof.Machine.execAndZpx b s
  | .rolZpx b => Sys2Proof.Machine.execRolZpx b s
  | .andAbsy w => Sys2Proof.Machine.execAndAbsy w s
  | .andAbsx w => Sys2Proof.Machine.execAndAbsx w s
  | .rolAbsx w => Sys2Proof.Machine.execRolAbsx w s
  | .eorIndx b => Sys2Proof.Machine.execEorIndx b s
  | .eorZp b => Sys2Proof.Machine.execEorZp b s
  | .lsrZp b => Sys2Proof.Machine.execLsrZp b s
  | .eorImm v => Sys2Proof.Machine.execEorImm v s
  | .jmpAbs w => Sys2Proof.Machine.execJmpAbs w s
  | .eorAbs w => Sys2Proof.Machine.execEorAbs w s
  | .lsrAbs w => Sys2Proof.Machine.execLsrAbs w s
  | .bvc off => Sys2Proof.Machine.execBvc off s
  | .eorIndy b => Sys2Proof.Machine.execEorIndy b s
  | .eorZpx b => Sys2Proof.Machine.execEorZpx b s
  | .lsrZpx b => Sys2Proof.Machine.execLsrZpx b s
  | .eorAbsy w => Sys2Proof.Machine.execEorAbsy w s
  | .eorAbsx w => Sys2Proof.Machine.execEorAbsx w s
  | .lsrAbsx w => Sys2Proof.Machine.execLsrAbsx w s
  | .adcIndx b => Sys2Proof.Machine.execAdcIndx b s
  | .adcZp b => Sys2Proof.Machine.execAdcZp b s
  | .rorZp b => Sys2Proof.Machine.execRorZp b s
  | .adcImm v => Sys2Proof.Machine.execAdcImm v s
  | .jmpInd w => Sys2Proof.Machine.execJmpInd w s
  | .adcAbs w => Sys2Proof.Machine.execAdcAbs w s
  | .rorAbs w => Sys2Proof.Machine.execRorAbs w s
  | .bvs off => Sys2Proof.Machine.execBvs off s
  | .adcIndy b => Sys2Proof.Machine.execAdcIndy b s
  | .adcZpx b => Sys2Proof.Machine.execAdcZpx b s
  | .rorZpx b => Sys2Proof.Machine.execRorZpx b s
  | .adcAbsy w => Sys2Proof.Machine.execAdcAbsy w s
  | .adcAbsx w => Sys2Proof.Machine.execAdcAbsx w s
  | .rorAbsx w => Sys2Proof.Machine.execRorAbsx w s
  | .staIndx b => Sys2Proof.Machine.execStaIndx b s
  | .styZp b => Sys2Proof.Machine.execStyZp b s
  | .staZp b => Sys2Proof.Machine.execStaZp b s
  | .stxZp b => Sys2Proof.Machine.execStxZp b s
  | .styAbs w => Sys2Proof.Machine.execStyAbs w s
  | .staAbs w => Sys2Proof.Machine.execStaAbs w s
  | .stxAbs w => Sys2Proof.Machine.execStxAbs w s
  | .bcc off => Sys2Proof.Machine.execBcc off s
  | .staIndy b => Sys2Proof.Machine.execStaIndy b s
  | .styZpx b => Sys2Proof.Machine.execStyZpx b s
  | .staZpx b => Sys2Proof.Machine.execStaZpx b s
  | .stxZpy b => Sys2Proof.Machine.execStxZpy b s
  | .staAbsy w => Sys2Proof.Machine.execStaAbsy w s
  | .staAbsx w => Sys2Proof.Machine.execStaAbsx w s
  | .ldyImm v => Sys2Proof.Machine.execLdyImm v s
  | .ldaIndx b => Sys2Proof.Machine.execLdaIndx b s
  | .ldxImm v => Sys2Proof.Machine.execLdxImm v s
  | .ldyZp b => Sys2Proof.Machine.execLdyZp b s
  | .ldaZp b => Sys2Proof.Machine.execLdaZp b s
  | .ldxZp b => Sys2Proof.Machine.execLdxZp b s
  | .ldaImm v => Sys2Proof.Machine.execLdaImm v s
  | .ldyAbs w => Sys2Proof.Machine.execLdyAbs w s
  | .ldaAbs w => Sys2Proof.Machine.execLdaAbs w s
  | .ldxAbs w => Sys2Proof.Machine.execLdxAbs w s
  | .bcs off => Sys2Proof.Machine.execBcs off s
  | .ldaIndy b => Sys2Proof.Machine.execLdaIndy b s
  | .ldyZpx b => Sys2Proof.Machine.execLdyZpx b s
  | .ldaZpx b => Sys2Proof.Machine.execLdaZpx b s
  | .ldxZpy b => Sys2Proof.Machine.execLdxZpy b s
  | .ldaAbsy w => Sys2Proof.Machine.execLdaAbsy w s
  | .ldyAbsx w => Sys2Proof.Machine.execLdyAbsx w s
  | .ldaAbsx w => Sys2Proof.Machine.execLdaAbsx w s
  | .ldxAbsy w => Sys2Proof.Machine.execLdxAbsy w s
  | .cpyImm v => Sys2Proof.Machine.execCpyImm v s
  | .cmpIndx b => Sys2Proof.Machine.execCmpIndx b s
  | .cpyZp b => Sys2Proof.Machine.execCpyZp b s
  | .cmpZp b => Sys2Proof.Machine.execCmpZp b s
  | .decZp b => Sys2Proof.Machine.execDecZp b s
  | .cmpImm v => Sys2Proof.Machine.execCmpImm v s
  | .cpyAbs w => Sys2Proof.Machine.execCpyAbs w s
  | .cmpAbs w => Sys2Proof.Machine.execCmpAbs w s
  | .decAbs w => Sys2Proof.Machine.execDecAbs w s
  | .bne off => Sys2Proof.Machine.execBne off s
  | .cmpIndy b => Sys2Proof.Machine.execCmpIndy b s
  | .cmpZpx b => Sys2Proof.Machine.execCmpZpx b s
  | .decZpx b => Sys2Proof.Machine.execDecZpx b s
  | .cmpAbsy w => Sys2Proof.Machine.execCmpAbsy w s
  | .cmpAbsx w => Sys2Proof.Machine.execCmpAbsx w s
  | .decAbsx w => Sys2Proof.Machine.execDecAbsx w s
  | .cpxImm v => Sys2Proof.Machine.execCpxImm v s
  | .sbcIndx b => Sys2Proof.Machine.execSbcIndx b s
  | .cpxZp b => Sys2Proof.Machine.execCpxZp b s
  | .sbcZp b => Sys2Proof.Machine.execSbcZp b s
  | .incZp b => Sys2Proof.Machine.execIncZp b s
  | .sbcImm v => Sys2Proof.Machine.execSbcImm v s
  | .cpxAbs w => Sys2Proof.Machine.execCpxAbs w s
  | .sbcAbs w => Sys2Proof.Machine.execSbcAbs w s
  | .incAbs w => Sys2Proof.Machine.execIncAbs w s
  | .beq off => Sys2Proof.Machine.execBeq off s
  | .sbcIndy b => Sys2Proof.Machine.execSbcIndy b s
  | .sbcZpx b => Sys2Proof.Machine.execSbcZpx b s
  | .incZpx b => Sys2Proof.Machine.execIncZpx b s
  | .sbcAbsy w => Sys2Proof.Machine.execSbcAbsy w s
  | .sbcAbsx w => Sys2Proof.Machine.execSbcAbsx w s
  | .incAbsx w => Sys2Proof.Machine.execIncAbsx w s
  | .viaReadOrb id => Sys2Proof.Machine.execViaReadOrb id s
  | .viaWriteOrb id v => Sys2Proof.Machine.execViaWriteOrb id v s
  | .viaReadOra id => Sys2Proof.Machine.execViaReadOra id s
  | .viaWriteOra id v => Sys2Proof.Machine.execViaWriteOra id v s
  | .viaReadDdrb id => Sys2Proof.Machine.execViaReadDdrb id s
  | .viaWriteDdrb id v => Sys2Proof.Machine.execViaWriteDdrb id v s
  | .viaReadDdra id => Sys2Proof.Machine.execViaReadDdra id s
  | .viaWriteDdra id v => Sys2Proof.Machine.execViaWriteDdra id v s
  | .viaReadT1cl id => Sys2Proof.Machine.execViaReadT1cl id s
  | .viaWriteT1cl id v => Sys2Proof.Machine.execViaWriteT1cl id v s
  | .viaReadT1ch id => Sys2Proof.Machine.execViaReadT1ch id s
  | .viaWriteT1ch id v => Sys2Proof.Machine.execViaWriteT1ch id v s
  | .viaReadT1ll id => Sys2Proof.Machine.execViaReadT1ll id s
  | .viaWriteT1ll id v => Sys2Proof.Machine.execViaWriteT1ll id v s
  | .viaReadT1lh id => Sys2Proof.Machine.execViaReadT1lh id s
  | .viaWriteT1lh id v => Sys2Proof.Machine.execViaWriteT1lh id v s
  | .viaReadT2cl id => Sys2Proof.Machine.execViaReadT2cl id s
  | .viaWriteT2cl id v => Sys2Proof.Machine.execViaWriteT2cl id v s
  | .viaReadT2ch id => Sys2Proof.Machine.execViaReadT2ch id s
  | .viaWriteT2ch id v => Sys2Proof.Machine.execViaWriteT2ch id v s
  | .viaReadSr id => Sys2Proof.Machine.execViaReadSr id s
  | .viaWriteSr id v => Sys2Proof.Machine.execViaWriteSr id v s
  | .viaReadAcr id => Sys2Proof.Machine.execViaReadAcr id s
  | .viaWriteAcr id v => Sys2Proof.Machine.execViaWriteAcr id v s
  | .viaReadPcr id => Sys2Proof.Machine.execViaReadPcr id s
  | .viaWritePcr id v => Sys2Proof.Machine.execViaWritePcr id v s
  | .viaReadIfr id => Sys2Proof.Machine.execViaReadIfr id s
  | .viaWriteIfr id v => Sys2Proof.Machine.execViaWriteIfr id v s
  | .viaReadIer id => Sys2Proof.Machine.execViaReadIer id s
  | .viaWriteIer id v => Sys2Proof.Machine.execViaWriteIer id v s
  | .viaReadOraF id => Sys2Proof.Machine.execViaReadOraF id s
  | .viaWriteOraF id v => Sys2Proof.Machine.execViaWriteOraF id v s
  | .fdcWriteCommand v => Sys2Proof.Machine.execFdcWriteCommand v s
  | .fdcWriteTrack v => Sys2Proof.Machine.execFdcWriteTrack v s
  | .fdcWriteSector v => Sys2Proof.Machine.execFdcWriteSector v s
  | .fdcWriteData v => Sys2Proof.Machine.execFdcWriteData v s
  | .fdcCmdRestore v => Sys2Proof.Machine.execFdcCmdRestore v s
  | .fdcCmdSeek v => Sys2Proof.Machine.execFdcCmdSeek v s
  | .fdcCmdStep v => Sys2Proof.Machine.execFdcCmdStep v s
  | .fdcCmdStepIn v => Sys2Proof.Machine.execFdcCmdStepIn v s
  | .fdcCmdStepOut v => Sys2Proof.Machine.execFdcCmdStepOut v s
  | .fdcCmdReadSector v => Sys2Proof.Machine.execFdcCmdReadSector v s
  | .fdcCmdWriteSector v => Sys2Proof.Machine.execFdcCmdWriteSector v s
  | .fdcCmdReadAddress v => Sys2Proof.Machine.execFdcCmdReadAddress v s
  | .fdcCmdForceInterrupt v => Sys2Proof.Machine.execFdcCmdForceInterrupt v s
  | .fdcCmdReadTrack v => Sys2Proof.Machine.execFdcCmdReadTrack v s
  | .fdcCmdWriteTrack v => Sys2Proof.Machine.execFdcCmdWriteTrack v s
  | .tubeHostWrite0 v => Sys2Proof.Machine.execTubeHostWrite0 v s
  | .tubeParasiteWrite0 v => Sys2Proof.Machine.execTubeParasiteWrite0 v s
  | .tubeHostWrite1 v => Sys2Proof.Machine.execTubeHostWrite1 v s
  | .tubeParasiteWrite1 v => Sys2Proof.Machine.execTubeParasiteWrite1 v s
  | .tubeHostWrite2 v => Sys2Proof.Machine.execTubeHostWrite2 v s
  | .tubeParasiteWrite2 v => Sys2Proof.Machine.execTubeParasiteWrite2 v s
  | .tubeHostWrite3 v => Sys2Proof.Machine.execTubeHostWrite3 v s
  | .tubeParasiteWrite3 v => Sys2Proof.Machine.execTubeParasiteWrite3 v s
  | .tubeHostWrite4 v => Sys2Proof.Machine.execTubeHostWrite4 v s
  | .tubeParasiteWrite4 v => Sys2Proof.Machine.execTubeParasiteWrite4 v s
  | .tubeHostWrite5 v => Sys2Proof.Machine.execTubeHostWrite5 v s
  | .tubeParasiteWrite5 v => Sys2Proof.Machine.execTubeParasiteWrite5 v s
  | .tubeHostWrite6 v => Sys2Proof.Machine.execTubeHostWrite6 v s
  | .tubeParasiteWrite6 v => Sys2Proof.Machine.execTubeParasiteWrite6 v s
  | .tubeHostWrite7 v => Sys2Proof.Machine.execTubeHostWrite7 v s
  | .tubeParasiteWrite7 v => Sys2Proof.Machine.execTubeParasiteWrite7 v s
  | .brk => Sys2Proof.Machine.execBrk s
  | .php => Sys2Proof.Machine.execPhp s
  | .aslAcc => Sys2Proof.Machine.execAslAcc s
  | .clc => Sys2Proof.Machine.execClc s
  | .plp => Sys2Proof.Machine.execPlp s
  | .rolAcc => Sys2Proof.Machine.execRolAcc s
  | .sec => Sys2Proof.Machine.execSec s
  | .rti => Sys2Proof.Machine.execRti s
  | .pha => Sys2Proof.Machine.execPha s
  | .lsrAcc => Sys2Proof.Machine.execLsrAcc s
  | .cli => Sys2Proof.Machine.execCli s
  | .rts => Sys2Proof.Machine.execRts s
  | .pla => Sys2Proof.Machine.execPla s
  | .rorAcc => Sys2Proof.Machine.execRorAcc s
  | .sei => Sys2Proof.Machine.execSei s
  | .dey => Sys2Proof.Machine.execDey s
  | .txa => Sys2Proof.Machine.execTxa s
  | .tya => Sys2Proof.Machine.execTya s
  | .txs => Sys2Proof.Machine.execTxs s
  | .tay => Sys2Proof.Machine.execTay s
  | .tax => Sys2Proof.Machine.execTax s
  | .clv => Sys2Proof.Machine.execClv s
  | .tsx => Sys2Proof.Machine.execTsx s
  | .iny => Sys2Proof.Machine.execIny s
  | .dex => Sys2Proof.Machine.execDex s
  | .cld => Sys2Proof.Machine.execCld s
  | .inx => Sys2Proof.Machine.execInx s
  | .nop => Sys2Proof.Machine.execNop s
  | .sed => Sys2Proof.Machine.execSed s
  | .reserved02 => Sys2Proof.Machine.execReserved02 s
  | .reserved03 => Sys2Proof.Machine.execReserved03 s
  | .reserved04 => Sys2Proof.Machine.execReserved04 s
  | .reserved07 => Sys2Proof.Machine.execReserved07 s
  | .reserved0B => Sys2Proof.Machine.execReserved0B s
  | .reserved0C => Sys2Proof.Machine.execReserved0C s
  | .reserved0F => Sys2Proof.Machine.execReserved0F s
  | .reserved12 => Sys2Proof.Machine.execReserved12 s
  | .reserved13 => Sys2Proof.Machine.execReserved13 s
  | .reserved14 => Sys2Proof.Machine.execReserved14 s
  | .reserved17 => Sys2Proof.Machine.execReserved17 s
  | .reserved1A => Sys2Proof.Machine.execReserved1A s
  | .reserved1B => Sys2Proof.Machine.execReserved1B s
  | .reserved1C => Sys2Proof.Machine.execReserved1C s
  | .reserved1F => Sys2Proof.Machine.execReserved1F s
  | .reserved22 => Sys2Proof.Machine.execReserved22 s
  | .reserved23 => Sys2Proof.Machine.execReserved23 s
  | .reserved27 => Sys2Proof.Machine.execReserved27 s
  | .reserved2B => Sys2Proof.Machine.execReserved2B s
  | .reserved2F => Sys2Proof.Machine.execReserved2F s
  | .reserved32 => Sys2Proof.Machine.execReserved32 s
  | .reserved33 => Sys2Proof.Machine.execReserved33 s
  | .reserved34 => Sys2Proof.Machine.execReserved34 s
  | .reserved37 => Sys2Proof.Machine.execReserved37 s
  | .reserved3A => Sys2Proof.Machine.execReserved3A s
  | .reserved3B => Sys2Proof.Machine.execReserved3B s
  | .reserved3C => Sys2Proof.Machine.execReserved3C s
  | .reserved3F => Sys2Proof.Machine.execReserved3F s
  | .reserved42 => Sys2Proof.Machine.execReserved42 s
  | .reserved43 => Sys2Proof.Machine.execReserved43 s
  | .reserved44 => Sys2Proof.Machine.execReserved44 s
  | .reserved47 => Sys2Proof.Machine.execReserved47 s
  | .reserved4B => Sys2Proof.Machine.execReserved4B s
  | .reserved4F => Sys2Proof.Machine.execReserved4F s
  | .reserved52 => Sys2Proof.Machine.execReserved52 s
  | .reserved53 => Sys2Proof.Machine.execReserved53 s
  | .reserved54 => Sys2Proof.Machine.execReserved54 s
  | .reserved57 => Sys2Proof.Machine.execReserved57 s
  | .reserved5A => Sys2Proof.Machine.execReserved5A s
  | .reserved5B => Sys2Proof.Machine.execReserved5B s
  | .reserved5C => Sys2Proof.Machine.execReserved5C s
  | .reserved5F => Sys2Proof.Machine.execReserved5F s
  | .reserved62 => Sys2Proof.Machine.execReserved62 s
  | .reserved63 => Sys2Proof.Machine.execReserved63 s
  | .reserved64 => Sys2Proof.Machine.execReserved64 s
  | .reserved67 => Sys2Proof.Machine.execReserved67 s
  | .reserved6B => Sys2Proof.Machine.execReserved6B s
  | .reserved6F => Sys2Proof.Machine.execReserved6F s
  | .reserved72 => Sys2Proof.Machine.execReserved72 s
  | .reserved73 => Sys2Proof.Machine.execReserved73 s
  | .reserved74 => Sys2Proof.Machine.execReserved74 s
  | .reserved77 => Sys2Proof.Machine.execReserved77 s
  | .reserved7A => Sys2Proof.Machine.execReserved7A s
  | .reserved7B => Sys2Proof.Machine.execReserved7B s
  | .reserved7C => Sys2Proof.Machine.execReserved7C s
  | .reserved7F => Sys2Proof.Machine.execReserved7F s
  | .reserved80 => Sys2Proof.Machine.execReserved80 s
  | .reserved82 => Sys2Proof.Machine.execReserved82 s
  | .reserved83 => Sys2Proof.Machine.execReserved83 s
  | .reserved87 => Sys2Proof.Machine.execReserved87 s
  | .reserved89 => Sys2Proof.Machine.execReserved89 s
  | .reserved8B => Sys2Proof.Machine.execReserved8B s
  | .reserved8F => Sys2Proof.Machine.execReserved8F s
  | .reserved92 => Sys2Proof.Machine.execReserved92 s
  | .reserved93 => Sys2Proof.Machine.execReserved93 s
  | .reserved97 => Sys2Proof.Machine.execReserved97 s
  | .reserved9B => Sys2Proof.Machine.execReserved9B s
  | .reserved9C => Sys2Proof.Machine.execReserved9C s
  | .reserved9E => Sys2Proof.Machine.execReserved9E s
  | .reserved9F => Sys2Proof.Machine.execReserved9F s
  | .reservedA3 => Sys2Proof.Machine.execReservedA3 s
  | .reservedA7 => Sys2Proof.Machine.execReservedA7 s
  | .reservedAB => Sys2Proof.Machine.execReservedAB s
  | .reservedAF => Sys2Proof.Machine.execReservedAF s
  | .reservedB2 => Sys2Proof.Machine.execReservedB2 s
  | .reservedB3 => Sys2Proof.Machine.execReservedB3 s
  | .reservedB7 => Sys2Proof.Machine.execReservedB7 s
  | .reservedBB => Sys2Proof.Machine.execReservedBB s
  | .reservedBF => Sys2Proof.Machine.execReservedBF s
  | .reservedC2 => Sys2Proof.Machine.execReservedC2 s
  | .reservedC3 => Sys2Proof.Machine.execReservedC3 s
  | .reservedC7 => Sys2Proof.Machine.execReservedC7 s
  | .reservedCB => Sys2Proof.Machine.execReservedCB s
  | .reservedCF => Sys2Proof.Machine.execReservedCF s
  | .reservedD2 => Sys2Proof.Machine.execReservedD2 s
  | .reservedD3 => Sys2Proof.Machine.execReservedD3 s
  | .reservedD4 => Sys2Proof.Machine.execReservedD4 s
  | .reservedD7 => Sys2Proof.Machine.execReservedD7 s
  | .reservedDA => Sys2Proof.Machine.execReservedDA s
  | .reservedDB => Sys2Proof.Machine.execReservedDB s
  | .reservedDC => Sys2Proof.Machine.execReservedDC s
  | .reservedDF => Sys2Proof.Machine.execReservedDF s
  | .reservedE2 => Sys2Proof.Machine.execReservedE2 s
  | .reservedE3 => Sys2Proof.Machine.execReservedE3 s
  | .reservedE7 => Sys2Proof.Machine.execReservedE7 s
  | .reservedEB => Sys2Proof.Machine.execReservedEB s
  | .reservedEF => Sys2Proof.Machine.execReservedEF s
  | .reservedF2 => Sys2Proof.Machine.execReservedF2 s
  | .reservedF3 => Sys2Proof.Machine.execReservedF3 s
  | .reservedF4 => Sys2Proof.Machine.execReservedF4 s
  | .reservedF7 => Sys2Proof.Machine.execReservedF7 s
  | .reservedFA => Sys2Proof.Machine.execReservedFA s
  | .reservedFB => Sys2Proof.Machine.execReservedFB s
  | .reservedFC => Sys2Proof.Machine.execReservedFC s
  | .reservedFF => Sys2Proof.Machine.execReservedFF s
  | .fdcReadStatus => Sys2Proof.Machine.execFdcReadStatus s
  | .fdcReadTrack => Sys2Proof.Machine.execFdcReadTrack s
  | .fdcReadSector => Sys2Proof.Machine.execFdcReadSector s
  | .fdcReadData => Sys2Proof.Machine.execFdcReadData s
  | .tubeHostRead0 => Sys2Proof.Machine.execTubeHostRead0 s
  | .tubeParasiteRead0 => Sys2Proof.Machine.execTubeParasiteRead0 s
  | .tubeHostRead1 => Sys2Proof.Machine.execTubeHostRead1 s
  | .tubeParasiteRead1 => Sys2Proof.Machine.execTubeParasiteRead1 s
  | .tubeHostRead2 => Sys2Proof.Machine.execTubeHostRead2 s
  | .tubeParasiteRead2 => Sys2Proof.Machine.execTubeParasiteRead2 s
  | .tubeHostRead3 => Sys2Proof.Machine.execTubeHostRead3 s
  | .tubeParasiteRead3 => Sys2Proof.Machine.execTubeParasiteRead3 s
  | .tubeHostRead4 => Sys2Proof.Machine.execTubeHostRead4 s
  | .tubeParasiteRead4 => Sys2Proof.Machine.execTubeParasiteRead4 s
  | .tubeHostRead5 => Sys2Proof.Machine.execTubeHostRead5 s
  | .tubeParasiteRead5 => Sys2Proof.Machine.execTubeParasiteRead5 s
  | .tubeHostRead6 => Sys2Proof.Machine.execTubeHostRead6 s
  | .tubeParasiteRead6 => Sys2Proof.Machine.execTubeParasiteRead6 s
  | .tubeHostRead7 => Sys2Proof.Machine.execTubeHostRead7 s
  | .tubeParasiteRead7 => Sys2Proof.Machine.execTubeParasiteRead7 s

end Sys2Proof.Machine
end

