-- ==== Sys2Proof/WellFormed.lean ====
section
/-! DEFINITION. Which terms of `Instr` are instructions. Operand bytes and data bytes are exact by their types; the one thing
a term can get wrong is an FDC command whose byte does not carry the fixed bits of its command (R166). -/

namespace Sys2Proof

/-- The fixed bits of a command byte are those of its command (R166). -/
def commandMatches (mask fixed v : Byte) : Bool := v &&& mask == fixed

/-- The check of one term. -/
def Instr.wellFormed (i : Instr) : Bool :=
  match i with
  | .oraIndx _ => true
  | .oraZp _ => true
  | .aslZp _ => true
  | .oraImm _ => true
  | .oraAbs _ => true
  | .aslAbs _ => true
  | .bpl _ => true
  | .oraIndy _ => true
  | .oraZpx _ => true
  | .aslZpx _ => true
  | .oraAbsy _ => true
  | .oraAbsx _ => true
  | .aslAbsx _ => true
  | .jsrAbs _ => true
  | .andIndx _ => true
  | .bitZp _ => true
  | .andZp _ => true
  | .rolZp _ => true
  | .andImm _ => true
  | .bitAbs _ => true
  | .andAbs _ => true
  | .rolAbs _ => true
  | .bmi _ => true
  | .andIndy _ => true
  | .andZpx _ => true
  | .rolZpx _ => true
  | .andAbsy _ => true
  | .andAbsx _ => true
  | .rolAbsx _ => true
  | .eorIndx _ => true
  | .eorZp _ => true
  | .lsrZp _ => true
  | .eorImm _ => true
  | .jmpAbs _ => true
  | .eorAbs _ => true
  | .lsrAbs _ => true
  | .bvc _ => true
  | .eorIndy _ => true
  | .eorZpx _ => true
  | .lsrZpx _ => true
  | .eorAbsy _ => true
  | .eorAbsx _ => true
  | .lsrAbsx _ => true
  | .adcIndx _ => true
  | .adcZp _ => true
  | .rorZp _ => true
  | .adcImm _ => true
  | .jmpInd _ => true
  | .adcAbs _ => true
  | .rorAbs _ => true
  | .bvs _ => true
  | .adcIndy _ => true
  | .adcZpx _ => true
  | .rorZpx _ => true
  | .adcAbsy _ => true
  | .adcAbsx _ => true
  | .rorAbsx _ => true
  | .staIndx _ => true
  | .styZp _ => true
  | .staZp _ => true
  | .stxZp _ => true
  | .styAbs _ => true
  | .staAbs _ => true
  | .stxAbs _ => true
  | .bcc _ => true
  | .staIndy _ => true
  | .styZpx _ => true
  | .staZpx _ => true
  | .stxZpy _ => true
  | .staAbsy _ => true
  | .staAbsx _ => true
  | .ldyImm _ => true
  | .ldaIndx _ => true
  | .ldxImm _ => true
  | .ldyZp _ => true
  | .ldaZp _ => true
  | .ldxZp _ => true
  | .ldaImm _ => true
  | .ldyAbs _ => true
  | .ldaAbs _ => true
  | .ldxAbs _ => true
  | .bcs _ => true
  | .ldaIndy _ => true
  | .ldyZpx _ => true
  | .ldaZpx _ => true
  | .ldxZpy _ => true
  | .ldaAbsy _ => true
  | .ldyAbsx _ => true
  | .ldaAbsx _ => true
  | .ldxAbsy _ => true
  | .cpyImm _ => true
  | .cmpIndx _ => true
  | .cpyZp _ => true
  | .cmpZp _ => true
  | .decZp _ => true
  | .cmpImm _ => true
  | .cpyAbs _ => true
  | .cmpAbs _ => true
  | .decAbs _ => true
  | .bne _ => true
  | .cmpIndy _ => true
  | .cmpZpx _ => true
  | .decZpx _ => true
  | .cmpAbsy _ => true
  | .cmpAbsx _ => true
  | .decAbsx _ => true
  | .cpxImm _ => true
  | .sbcIndx _ => true
  | .cpxZp _ => true
  | .sbcZp _ => true
  | .incZp _ => true
  | .sbcImm _ => true
  | .cpxAbs _ => true
  | .sbcAbs _ => true
  | .incAbs _ => true
  | .beq _ => true
  | .sbcIndy _ => true
  | .sbcZpx _ => true
  | .incZpx _ => true
  | .sbcAbsy _ => true
  | .sbcAbsx _ => true
  | .incAbsx _ => true
  | .viaReadOrb _ => true
  | .viaWriteOrb _ _ => true
  | .viaReadOra _ => true
  | .viaWriteOra _ _ => true
  | .viaReadDdrb _ => true
  | .viaWriteDdrb _ _ => true
  | .viaReadDdra _ => true
  | .viaWriteDdra _ _ => true
  | .viaReadT1cl _ => true
  | .viaWriteT1cl _ _ => true
  | .viaReadT1ch _ => true
  | .viaWriteT1ch _ _ => true
  | .viaReadT1ll _ => true
  | .viaWriteT1ll _ _ => true
  | .viaReadT1lh _ => true
  | .viaWriteT1lh _ _ => true
  | .viaReadT2cl _ => true
  | .viaWriteT2cl _ _ => true
  | .viaReadT2ch _ => true
  | .viaWriteT2ch _ _ => true
  | .viaReadSr _ => true
  | .viaWriteSr _ _ => true
  | .viaReadAcr _ => true
  | .viaWriteAcr _ _ => true
  | .viaReadPcr _ => true
  | .viaWritePcr _ _ => true
  | .viaReadIfr _ => true
  | .viaWriteIfr _ _ => true
  | .viaReadIer _ => true
  | .viaWriteIer _ _ => true
  | .viaReadOraF _ => true
  | .viaWriteOraF _ _ => true
  | .fdcWriteCommand _ => true
  | .fdcWriteTrack _ => true
  | .fdcWriteSector _ => true
  | .fdcWriteData _ => true
  | .fdcCmdRestore v => commandMatches 0xF0 0x00 v
  | .fdcCmdSeek v => commandMatches 0xF0 0x10 v
  | .fdcCmdStep v => commandMatches 0xE0 0x20 v
  | .fdcCmdStepIn v => commandMatches 0xE0 0x40 v
  | .fdcCmdStepOut v => commandMatches 0xE0 0x60 v
  | .fdcCmdReadSector v => commandMatches 0xE0 0x80 v
  | .fdcCmdWriteSector v => commandMatches 0xE0 0xA0 v
  | .fdcCmdReadAddress v => commandMatches 0xF0 0xC0 v
  | .fdcCmdForceInterrupt v => commandMatches 0xF0 0xD0 v
  | .fdcCmdReadTrack v => commandMatches 0xF0 0xE0 v
  | .fdcCmdWriteTrack v => commandMatches 0xF0 0xF0 v
  | .tubeHostWrite0 _ => true
  | .tubeParasiteWrite0 _ => true
  | .tubeHostWrite1 _ => true
  | .tubeParasiteWrite1 _ => true
  | .tubeHostWrite2 _ => true
  | .tubeParasiteWrite2 _ => true
  | .tubeHostWrite3 _ => true
  | .tubeParasiteWrite3 _ => true
  | .tubeHostWrite4 _ => true
  | .tubeParasiteWrite4 _ => true
  | .tubeHostWrite5 _ => true
  | .tubeParasiteWrite5 _ => true
  | .tubeHostWrite6 _ => true
  | .tubeParasiteWrite6 _ => true
  | .tubeHostWrite7 _ => true
  | .tubeParasiteWrite7 _ => true
  | .brk => true
  | .php => true
  | .aslAcc => true
  | .clc => true
  | .plp => true
  | .rolAcc => true
  | .sec => true
  | .rti => true
  | .pha => true
  | .lsrAcc => true
  | .cli => true
  | .rts => true
  | .pla => true
  | .rorAcc => true
  | .sei => true
  | .dey => true
  | .txa => true
  | .tya => true
  | .txs => true
  | .tay => true
  | .tax => true
  | .clv => true
  | .tsx => true
  | .iny => true
  | .dex => true
  | .cld => true
  | .inx => true
  | .nop => true
  | .sed => true
  | .reserved02 => true
  | .reserved03 => true
  | .reserved04 => true
  | .reserved07 => true
  | .reserved0B => true
  | .reserved0C => true
  | .reserved0F => true
  | .reserved12 => true
  | .reserved13 => true
  | .reserved14 => true
  | .reserved17 => true
  | .reserved1A => true
  | .reserved1B => true
  | .reserved1C => true
  | .reserved1F => true
  | .reserved22 => true
  | .reserved23 => true
  | .reserved27 => true
  | .reserved2B => true
  | .reserved2F => true
  | .reserved32 => true
  | .reserved33 => true
  | .reserved34 => true
  | .reserved37 => true
  | .reserved3A => true
  | .reserved3B => true
  | .reserved3C => true
  | .reserved3F => true
  | .reserved42 => true
  | .reserved43 => true
  | .reserved44 => true
  | .reserved47 => true
  | .reserved4B => true
  | .reserved4F => true
  | .reserved52 => true
  | .reserved53 => true
  | .reserved54 => true
  | .reserved57 => true
  | .reserved5A => true
  | .reserved5B => true
  | .reserved5C => true
  | .reserved5F => true
  | .reserved62 => true
  | .reserved63 => true
  | .reserved64 => true
  | .reserved67 => true
  | .reserved6B => true
  | .reserved6F => true
  | .reserved72 => true
  | .reserved73 => true
  | .reserved74 => true
  | .reserved77 => true
  | .reserved7A => true
  | .reserved7B => true
  | .reserved7C => true
  | .reserved7F => true
  | .reserved80 => true
  | .reserved82 => true
  | .reserved83 => true
  | .reserved87 => true
  | .reserved89 => true
  | .reserved8B => true
  | .reserved8F => true
  | .reserved92 => true
  | .reserved93 => true
  | .reserved97 => true
  | .reserved9B => true
  | .reserved9C => true
  | .reserved9E => true
  | .reserved9F => true
  | .reservedA3 => true
  | .reservedA7 => true
  | .reservedAB => true
  | .reservedAF => true
  | .reservedB2 => true
  | .reservedB3 => true
  | .reservedB7 => true
  | .reservedBB => true
  | .reservedBF => true
  | .reservedC2 => true
  | .reservedC3 => true
  | .reservedC7 => true
  | .reservedCB => true
  | .reservedCF => true
  | .reservedD2 => true
  | .reservedD3 => true
  | .reservedD4 => true
  | .reservedD7 => true
  | .reservedDA => true
  | .reservedDB => true
  | .reservedDC => true
  | .reservedDF => true
  | .reservedE2 => true
  | .reservedE3 => true
  | .reservedE7 => true
  | .reservedEB => true
  | .reservedEF => true
  | .reservedF2 => true
  | .reservedF3 => true
  | .reservedF4 => true
  | .reservedF7 => true
  | .reservedFA => true
  | .reservedFB => true
  | .reservedFC => true
  | .reservedFF => true
  | .fdcReadStatus => true
  | .fdcReadTrack => true
  | .fdcReadSector => true
  | .fdcReadData => true
  | .tubeHostRead0 => true
  | .tubeParasiteRead0 => true
  | .tubeHostRead1 => true
  | .tubeParasiteRead1 => true
  | .tubeHostRead2 => true
  | .tubeParasiteRead2 => true
  | .tubeHostRead3 => true
  | .tubeParasiteRead3 => true
  | .tubeHostRead4 => true
  | .tubeParasiteRead4 => true
  | .tubeHostRead5 => true
  | .tubeParasiteRead5 => true
  | .tubeHostRead6 => true
  | .tubeParasiteRead6 => true
  | .tubeHostRead7 => true
  | .tubeParasiteRead7 => true

/-- The term is an instruction. -/
abbrev Instr.WellFormed (i : Instr) : Prop := i.wellFormed = true

end Sys2Proof
end

