-- ==== Sys2Proof/Decode.lean ====
section
/-! DEFINITION. Decoding, total on any bytes, and after it the encoder. The CPU decodes by its opcode byte through a 256-entry
table (R141, R143, R146, R194); a device decodes a register number and a direction (R160, R165, R175), and the FDC a
command byte (R166). Device words overlap CPU opcodes, so a word is decoded for the agent it is given to (log entry 15). -/

namespace Sys2Proof

/-! ### What is decoded -/

/-- The two sides of the Tube (R175). -/
inductive TubeSide where
  | host
  | parasite
deriving DecidableEq, Repr

/-- The words of an instruction with the agent that decodes them. -/
inductive Code where
  /-- Instruction bytes of the CPU, the first at the lowest address. -/
  | cpu (bytes : List Byte)
  /-- A read of a VIA register. -/
  | viaRead (id : ViaId) (r : BitVec 4)
  /-- A write of a VIA register. -/
  | viaWrite (id : ViaId) (r : BitVec 4) (v : Byte)
  /-- A read of an FDC register. -/
  | fdcRead (r : BitVec 2)
  /-- A write of an FDC register. -/
  | fdcWrite (r : BitVec 2) (v : Byte)
  /-- A byte that has reached the FDC's command decoder. -/
  | fdcCommand (v : Byte)
  /-- A read of a Tube register. -/
  | tubeRead (side : TubeSide) (r : BitVec 3)
  /-- A write of a Tube register. -/
  | tubeWrite (side : TubeSide) (r : BitVec 3) (v : Byte)
deriving DecidableEq, Repr

/-- Why bytes decode to no instruction. -/
inductive DecodeError where
  /-- There is no byte. -/
  | empty
  /-- The opcode asks for more operand bytes than there are. -/
  | truncated (opcode : Byte) (operands : Nat)
  /-- Bytes are left after the instruction. -/
  | trailing (opcode : Byte)
deriving DecidableEq, Repr

/-! ### The CPU's decoder -/

/-- The formats of R141, and the reserved values of R147. -/
inductive Format where
  | imp
  | acc
  | imm
  | zp
  | zpx
  | zpy
  | abs
  | absx
  | absy
  | ind
  | indx
  | indy
  | rel
  | reserved
deriving DecidableEq, Repr

/-- The length in bytes of a format (R141). A reserved opcode is never followed further. -/
def Format.length : Format → Nat
  | .imp => 1
  | .acc => 1
  | .imm => 2
  | .zp => 2
  | .zpx => 2
  | .zpy => 2
  | .abs => 3
  | .absx => 3
  | .absy => 3
  | .ind => 3
  | .indx => 2
  | .indy => 2
  | .rel => 2
  | .reserved => 1

/-- The format of an opcode (R143, R144, R147). -/
def formatOf (op : Byte) : Format :=
  match op.toNat with
  | 0x00 => .imp
  | 0x01 => .indx
  | 0x02 => .reserved
  | 0x03 => .reserved
  | 0x04 => .reserved
  | 0x05 => .zp
  | 0x06 => .zp
  | 0x07 => .reserved
  | 0x08 => .imp
  | 0x09 => .imm
  | 0x0A => .acc
  | 0x0B => .reserved
  | 0x0C => .reserved
  | 0x0D => .abs
  | 0x0E => .abs
  | 0x0F => .reserved
  | 0x10 => .rel
  | 0x11 => .indy
  | 0x12 => .reserved
  | 0x13 => .reserved
  | 0x14 => .reserved
  | 0x15 => .zpx
  | 0x16 => .zpx
  | 0x17 => .reserved
  | 0x18 => .imp
  | 0x19 => .absy
  | 0x1A => .reserved
  | 0x1B => .reserved
  | 0x1C => .reserved
  | 0x1D => .absx
  | 0x1E => .absx
  | 0x1F => .reserved
  | 0x20 => .abs
  | 0x21 => .indx
  | 0x22 => .reserved
  | 0x23 => .reserved
  | 0x24 => .zp
  | 0x25 => .zp
  | 0x26 => .zp
  | 0x27 => .reserved
  | 0x28 => .imp
  | 0x29 => .imm
  | 0x2A => .acc
  | 0x2B => .reserved
  | 0x2C => .abs
  | 0x2D => .abs
  | 0x2E => .abs
  | 0x2F => .reserved
  | 0x30 => .rel
  | 0x31 => .indy
  | 0x32 => .reserved
  | 0x33 => .reserved
  | 0x34 => .reserved
  | 0x35 => .zpx
  | 0x36 => .zpx
  | 0x37 => .reserved
  | 0x38 => .imp
  | 0x39 => .absy
  | 0x3A => .reserved
  | 0x3B => .reserved
  | 0x3C => .reserved
  | 0x3D => .absx
  | 0x3E => .absx
  | 0x3F => .reserved
  | 0x40 => .imp
  | 0x41 => .indx
  | 0x42 => .reserved
  | 0x43 => .reserved
  | 0x44 => .reserved
  | 0x45 => .zp
  | 0x46 => .zp
  | 0x47 => .reserved
  | 0x48 => .imp
  | 0x49 => .imm
  | 0x4A => .acc
  | 0x4B => .reserved
  | 0x4C => .abs
  | 0x4D => .abs
  | 0x4E => .abs
  | 0x4F => .reserved
  | 0x50 => .rel
  | 0x51 => .indy
  | 0x52 => .reserved
  | 0x53 => .reserved
  | 0x54 => .reserved
  | 0x55 => .zpx
  | 0x56 => .zpx
  | 0x57 => .reserved
  | 0x58 => .imp
  | 0x59 => .absy
  | 0x5A => .reserved
  | 0x5B => .reserved
  | 0x5C => .reserved
  | 0x5D => .absx
  | 0x5E => .absx
  | 0x5F => .reserved
  | 0x60 => .imp
  | 0x61 => .indx
  | 0x62 => .reserved
  | 0x63 => .reserved
  | 0x64 => .reserved
  | 0x65 => .zp
  | 0x66 => .zp
  | 0x67 => .reserved
  | 0x68 => .imp
  | 0x69 => .imm
  | 0x6A => .acc
  | 0x6B => .reserved
  | 0x6C => .ind
  | 0x6D => .abs
  | 0x6E => .abs
  | 0x6F => .reserved
  | 0x70 => .rel
  | 0x71 => .indy
  | 0x72 => .reserved
  | 0x73 => .reserved
  | 0x74 => .reserved
  | 0x75 => .zpx
  | 0x76 => .zpx
  | 0x77 => .reserved
  | 0x78 => .imp
  | 0x79 => .absy
  | 0x7A => .reserved
  | 0x7B => .reserved
  | 0x7C => .reserved
  | 0x7D => .absx
  | 0x7E => .absx
  | 0x7F => .reserved
  | 0x80 => .reserved
  | 0x81 => .indx
  | 0x82 => .reserved
  | 0x83 => .reserved
  | 0x84 => .zp
  | 0x85 => .zp
  | 0x86 => .zp
  | 0x87 => .reserved
  | 0x88 => .imp
  | 0x89 => .reserved
  | 0x8A => .imp
  | 0x8B => .reserved
  | 0x8C => .abs
  | 0x8D => .abs
  | 0x8E => .abs
  | 0x8F => .reserved
  | 0x90 => .rel
  | 0x91 => .indy
  | 0x92 => .reserved
  | 0x93 => .reserved
  | 0x94 => .zpx
  | 0x95 => .zpx
  | 0x96 => .zpy
  | 0x97 => .reserved
  | 0x98 => .imp
  | 0x99 => .absy
  | 0x9A => .imp
  | 0x9B => .reserved
  | 0x9C => .reserved
  | 0x9D => .absx
  | 0x9E => .reserved
  | 0x9F => .reserved
  | 0xA0 => .imm
  | 0xA1 => .indx
  | 0xA2 => .imm
  | 0xA3 => .reserved
  | 0xA4 => .zp
  | 0xA5 => .zp
  | 0xA6 => .zp
  | 0xA7 => .reserved
  | 0xA8 => .imp
  | 0xA9 => .imm
  | 0xAA => .imp
  | 0xAB => .reserved
  | 0xAC => .abs
  | 0xAD => .abs
  | 0xAE => .abs
  | 0xAF => .reserved
  | 0xB0 => .rel
  | 0xB1 => .indy
  | 0xB2 => .reserved
  | 0xB3 => .reserved
  | 0xB4 => .zpx
  | 0xB5 => .zpx
  | 0xB6 => .zpy
  | 0xB7 => .reserved
  | 0xB8 => .imp
  | 0xB9 => .absy
  | 0xBA => .imp
  | 0xBB => .reserved
  | 0xBC => .absx
  | 0xBD => .absx
  | 0xBE => .absy
  | 0xBF => .reserved
  | 0xC0 => .imm
  | 0xC1 => .indx
  | 0xC2 => .reserved
  | 0xC3 => .reserved
  | 0xC4 => .zp
  | 0xC5 => .zp
  | 0xC6 => .zp
  | 0xC7 => .reserved
  | 0xC8 => .imp
  | 0xC9 => .imm
  | 0xCA => .imp
  | 0xCB => .reserved
  | 0xCC => .abs
  | 0xCD => .abs
  | 0xCE => .abs
  | 0xCF => .reserved
  | 0xD0 => .rel
  | 0xD1 => .indy
  | 0xD2 => .reserved
  | 0xD3 => .reserved
  | 0xD4 => .reserved
  | 0xD5 => .zpx
  | 0xD6 => .zpx
  | 0xD7 => .reserved
  | 0xD8 => .imp
  | 0xD9 => .absy
  | 0xDA => .reserved
  | 0xDB => .reserved
  | 0xDC => .reserved
  | 0xDD => .absx
  | 0xDE => .absx
  | 0xDF => .reserved
  | 0xE0 => .imm
  | 0xE1 => .indx
  | 0xE2 => .reserved
  | 0xE3 => .reserved
  | 0xE4 => .zp
  | 0xE5 => .zp
  | 0xE6 => .zp
  | 0xE7 => .reserved
  | 0xE8 => .imp
  | 0xE9 => .imm
  | 0xEA => .imp
  | 0xEB => .reserved
  | 0xEC => .abs
  | 0xED => .abs
  | 0xEE => .abs
  | 0xEF => .reserved
  | 0xF0 => .rel
  | 0xF1 => .indy
  | 0xF2 => .reserved
  | 0xF3 => .reserved
  | 0xF4 => .reserved
  | 0xF5 => .zpx
  | 0xF6 => .zpx
  | 0xF7 => .reserved
  | 0xF8 => .imp
  | 0xF9 => .absy
  | 0xFA => .reserved
  | 0xFB => .reserved
  | 0xFC => .reserved
  | 0xFD => .absx
  | 0xFE => .absx
  | _ => .reserved

/-- The operand bytes of an opcode: all the bytes of its format but the first (R140, R141). -/
def operandCount (op : Byte) : Nat := (formatOf op).length - 1

/-- A little-endian operand (R106, R142). -/
def operandWord (b1 b2 : Byte) : Word := b2 ++ b1

/-- The 256-entry table (R143, R144, R146): the instruction of an opcode with its first and second operand byte. -/
def decodeOpcode (op b1 b2 : Byte) : Instr :=
  match op.toNat with
  | 0x00 => .brk
  | 0x01 => .oraIndx b1
  | 0x02 => .reserved02
  | 0x03 => .reserved03
  | 0x04 => .reserved04
  | 0x05 => .oraZp b1
  | 0x06 => .aslZp b1
  | 0x07 => .reserved07
  | 0x08 => .php
  | 0x09 => .oraImm b1
  | 0x0A => .aslAcc
  | 0x0B => .reserved0B
  | 0x0C => .reserved0C
  | 0x0D => .oraAbs (operandWord b1 b2)
  | 0x0E => .aslAbs (operandWord b1 b2)
  | 0x0F => .reserved0F
  | 0x10 => .bpl b1
  | 0x11 => .oraIndy b1
  | 0x12 => .reserved12
  | 0x13 => .reserved13
  | 0x14 => .reserved14
  | 0x15 => .oraZpx b1
  | 0x16 => .aslZpx b1
  | 0x17 => .reserved17
  | 0x18 => .clc
  | 0x19 => .oraAbsy (operandWord b1 b2)
  | 0x1A => .reserved1A
  | 0x1B => .reserved1B
  | 0x1C => .reserved1C
  | 0x1D => .oraAbsx (operandWord b1 b2)
  | 0x1E => .aslAbsx (operandWord b1 b2)
  | 0x1F => .reserved1F
  | 0x20 => .jsrAbs (operandWord b1 b2)
  | 0x21 => .andIndx b1
  | 0x22 => .reserved22
  | 0x23 => .reserved23
  | 0x24 => .bitZp b1
  | 0x25 => .andZp b1
  | 0x26 => .rolZp b1
  | 0x27 => .reserved27
  | 0x28 => .plp
  | 0x29 => .andImm b1
  | 0x2A => .rolAcc
  | 0x2B => .reserved2B
  | 0x2C => .bitAbs (operandWord b1 b2)
  | 0x2D => .andAbs (operandWord b1 b2)
  | 0x2E => .rolAbs (operandWord b1 b2)
  | 0x2F => .reserved2F
  | 0x30 => .bmi b1
  | 0x31 => .andIndy b1
  | 0x32 => .reserved32
  | 0x33 => .reserved33
  | 0x34 => .reserved34
  | 0x35 => .andZpx b1
  | 0x36 => .rolZpx b1
  | 0x37 => .reserved37
  | 0x38 => .sec
  | 0x39 => .andAbsy (operandWord b1 b2)
  | 0x3A => .reserved3A
  | 0x3B => .reserved3B
  | 0x3C => .reserved3C
  | 0x3D => .andAbsx (operandWord b1 b2)
  | 0x3E => .rolAbsx (operandWord b1 b2)
  | 0x3F => .reserved3F
  | 0x40 => .rti
  | 0x41 => .eorIndx b1
  | 0x42 => .reserved42
  | 0x43 => .reserved43
  | 0x44 => .reserved44
  | 0x45 => .eorZp b1
  | 0x46 => .lsrZp b1
  | 0x47 => .reserved47
  | 0x48 => .pha
  | 0x49 => .eorImm b1
  | 0x4A => .lsrAcc
  | 0x4B => .reserved4B
  | 0x4C => .jmpAbs (operandWord b1 b2)
  | 0x4D => .eorAbs (operandWord b1 b2)
  | 0x4E => .lsrAbs (operandWord b1 b2)
  | 0x4F => .reserved4F
  | 0x50 => .bvc b1
  | 0x51 => .eorIndy b1
  | 0x52 => .reserved52
  | 0x53 => .reserved53
  | 0x54 => .reserved54
  | 0x55 => .eorZpx b1
  | 0x56 => .lsrZpx b1
  | 0x57 => .reserved57
  | 0x58 => .cli
  | 0x59 => .eorAbsy (operandWord b1 b2)
  | 0x5A => .reserved5A
  | 0x5B => .reserved5B
  | 0x5C => .reserved5C
  | 0x5D => .eorAbsx (operandWord b1 b2)
  | 0x5E => .lsrAbsx (operandWord b1 b2)
  | 0x5F => .reserved5F
  | 0x60 => .rts
  | 0x61 => .adcIndx b1
  | 0x62 => .reserved62
  | 0x63 => .reserved63
  | 0x64 => .reserved64
  | 0x65 => .adcZp b1
  | 0x66 => .rorZp b1
  | 0x67 => .reserved67
  | 0x68 => .pla
  | 0x69 => .adcImm b1
  | 0x6A => .rorAcc
  | 0x6B => .reserved6B
  | 0x6C => .jmpInd (operandWord b1 b2)
  | 0x6D => .adcAbs (operandWord b1 b2)
  | 0x6E => .rorAbs (operandWord b1 b2)
  | 0x6F => .reserved6F
  | 0x70 => .bvs b1
  | 0x71 => .adcIndy b1
  | 0x72 => .reserved72
  | 0x73 => .reserved73
  | 0x74 => .reserved74
  | 0x75 => .adcZpx b1
  | 0x76 => .rorZpx b1
  | 0x77 => .reserved77
  | 0x78 => .sei
  | 0x79 => .adcAbsy (operandWord b1 b2)
  | 0x7A => .reserved7A
  | 0x7B => .reserved7B
  | 0x7C => .reserved7C
  | 0x7D => .adcAbsx (operandWord b1 b2)
  | 0x7E => .rorAbsx (operandWord b1 b2)
  | 0x7F => .reserved7F
  | 0x80 => .reserved80
  | 0x81 => .staIndx b1
  | 0x82 => .reserved82
  | 0x83 => .reserved83
  | 0x84 => .styZp b1
  | 0x85 => .staZp b1
  | 0x86 => .stxZp b1
  | 0x87 => .reserved87
  | 0x88 => .dey
  | 0x89 => .reserved89
  | 0x8A => .txa
  | 0x8B => .reserved8B
  | 0x8C => .styAbs (operandWord b1 b2)
  | 0x8D => .staAbs (operandWord b1 b2)
  | 0x8E => .stxAbs (operandWord b1 b2)
  | 0x8F => .reserved8F
  | 0x90 => .bcc b1
  | 0x91 => .staIndy b1
  | 0x92 => .reserved92
  | 0x93 => .reserved93
  | 0x94 => .styZpx b1
  | 0x95 => .staZpx b1
  | 0x96 => .stxZpy b1
  | 0x97 => .reserved97
  | 0x98 => .tya
  | 0x99 => .staAbsy (operandWord b1 b2)
  | 0x9A => .txs
  | 0x9B => .reserved9B
  | 0x9C => .reserved9C
  | 0x9D => .staAbsx (operandWord b1 b2)
  | 0x9E => .reserved9E
  | 0x9F => .reserved9F
  | 0xA0 => .ldyImm b1
  | 0xA1 => .ldaIndx b1
  | 0xA2 => .ldxImm b1
  | 0xA3 => .reservedA3
  | 0xA4 => .ldyZp b1
  | 0xA5 => .ldaZp b1
  | 0xA6 => .ldxZp b1
  | 0xA7 => .reservedA7
  | 0xA8 => .tay
  | 0xA9 => .ldaImm b1
  | 0xAA => .tax
  | 0xAB => .reservedAB
  | 0xAC => .ldyAbs (operandWord b1 b2)
  | 0xAD => .ldaAbs (operandWord b1 b2)
  | 0xAE => .ldxAbs (operandWord b1 b2)
  | 0xAF => .reservedAF
  | 0xB0 => .bcs b1
  | 0xB1 => .ldaIndy b1
  | 0xB2 => .reservedB2
  | 0xB3 => .reservedB3
  | 0xB4 => .ldyZpx b1
  | 0xB5 => .ldaZpx b1
  | 0xB6 => .ldxZpy b1
  | 0xB7 => .reservedB7
  | 0xB8 => .clv
  | 0xB9 => .ldaAbsy (operandWord b1 b2)
  | 0xBA => .tsx
  | 0xBB => .reservedBB
  | 0xBC => .ldyAbsx (operandWord b1 b2)
  | 0xBD => .ldaAbsx (operandWord b1 b2)
  | 0xBE => .ldxAbsy (operandWord b1 b2)
  | 0xBF => .reservedBF
  | 0xC0 => .cpyImm b1
  | 0xC1 => .cmpIndx b1
  | 0xC2 => .reservedC2
  | 0xC3 => .reservedC3
  | 0xC4 => .cpyZp b1
  | 0xC5 => .cmpZp b1
  | 0xC6 => .decZp b1
  | 0xC7 => .reservedC7
  | 0xC8 => .iny
  | 0xC9 => .cmpImm b1
  | 0xCA => .dex
  | 0xCB => .reservedCB
  | 0xCC => .cpyAbs (operandWord b1 b2)
  | 0xCD => .cmpAbs (operandWord b1 b2)
  | 0xCE => .decAbs (operandWord b1 b2)
  | 0xCF => .reservedCF
  | 0xD0 => .bne b1
  | 0xD1 => .cmpIndy b1
  | 0xD2 => .reservedD2
  | 0xD3 => .reservedD3
  | 0xD4 => .reservedD4
  | 0xD5 => .cmpZpx b1
  | 0xD6 => .decZpx b1
  | 0xD7 => .reservedD7
  | 0xD8 => .cld
  | 0xD9 => .cmpAbsy (operandWord b1 b2)
  | 0xDA => .reservedDA
  | 0xDB => .reservedDB
  | 0xDC => .reservedDC
  | 0xDD => .cmpAbsx (operandWord b1 b2)
  | 0xDE => .decAbsx (operandWord b1 b2)
  | 0xDF => .reservedDF
  | 0xE0 => .cpxImm b1
  | 0xE1 => .sbcIndx b1
  | 0xE2 => .reservedE2
  | 0xE3 => .reservedE3
  | 0xE4 => .cpxZp b1
  | 0xE5 => .sbcZp b1
  | 0xE6 => .incZp b1
  | 0xE7 => .reservedE7
  | 0xE8 => .inx
  | 0xE9 => .sbcImm b1
  | 0xEA => .nop
  | 0xEB => .reservedEB
  | 0xEC => .cpxAbs (operandWord b1 b2)
  | 0xED => .sbcAbs (operandWord b1 b2)
  | 0xEE => .incAbs (operandWord b1 b2)
  | 0xEF => .reservedEF
  | 0xF0 => .beq b1
  | 0xF1 => .sbcIndy b1
  | 0xF2 => .reservedF2
  | 0xF3 => .reservedF3
  | 0xF4 => .reservedF4
  | 0xF5 => .sbcZpx b1
  | 0xF6 => .incZpx b1
  | 0xF7 => .reservedF7
  | 0xF8 => .sed
  | 0xF9 => .sbcAbsy (operandWord b1 b2)
  | 0xFA => .reservedFA
  | 0xFB => .reservedFB
  | 0xFC => .reservedFC
  | 0xFD => .sbcAbsx (operandWord b1 b2)
  | 0xFE => .incAbsx (operandWord b1 b2)
  | _ => .reservedFF

/-- Decode the first instruction of a list of bytes; the answer carries the bytes after it. -/
def decodeBytes : List Byte → Except DecodeError (Instr × List Byte)
  | [] => .error .empty
  | op :: rest =>
    match operandCount op, rest with
    | 0, r => .ok (decodeOpcode op 0 0, r)
    | 1, b1 :: r => .ok (decodeOpcode op b1 0, r)
    | 2, b1 :: b2 :: r => .ok (decodeOpcode op b1 b2, r)
    | n, _ => .error (.truncated op n)

/-! ### The devices' decoders -/

/-- The VIA register read of a register number (R160). -/
def decodeViaRead (id : ViaId) (r : BitVec 4) : Instr :=
  match r.toNat with
  | 0 => .viaReadOrb id
  | 1 => .viaReadOra id
  | 2 => .viaReadDdrb id
  | 3 => .viaReadDdra id
  | 4 => .viaReadT1cl id
  | 5 => .viaReadT1ch id
  | 6 => .viaReadT1ll id
  | 7 => .viaReadT1lh id
  | 8 => .viaReadT2cl id
  | 9 => .viaReadT2ch id
  | 10 => .viaReadSr id
  | 11 => .viaReadAcr id
  | 12 => .viaReadPcr id
  | 13 => .viaReadIfr id
  | 14 => .viaReadIer id
  | _ => .viaReadOraF id

/-- The VIA register write of a register number (R160). -/
def decodeViaWrite (id : ViaId) (r : BitVec 4) (v : Byte) : Instr :=
  match r.toNat with
  | 0 => .viaWriteOrb id v
  | 1 => .viaWriteOra id v
  | 2 => .viaWriteDdrb id v
  | 3 => .viaWriteDdra id v
  | 4 => .viaWriteT1cl id v
  | 5 => .viaWriteT1ch id v
  | 6 => .viaWriteT1ll id v
  | 7 => .viaWriteT1lh id v
  | 8 => .viaWriteT2cl id v
  | 9 => .viaWriteT2ch id v
  | 10 => .viaWriteSr id v
  | 11 => .viaWriteAcr id v
  | 12 => .viaWritePcr id v
  | 13 => .viaWriteIfr id v
  | 14 => .viaWriteIer id v
  | _ => .viaWriteOraF id v

/-- The FDC register read of a register number (R165). -/
def decodeFdcRead (r : BitVec 2) : Instr :=
  match r.toNat with
  | 0 => .fdcReadStatus
  | 1 => .fdcReadTrack
  | 2 => .fdcReadSector
  | _ => .fdcReadData

/-- The FDC register write of a register number (R165). -/
def decodeFdcWrite (r : BitVec 2) (v : Byte) : Instr :=
  match r.toNat with
  | 0 => .fdcWriteCommand v
  | 1 => .fdcWriteTrack v
  | 2 => .fdcWriteSector v
  | _ => .fdcWriteData v

/-- The FDC command of a command byte: the top nibble selects it (R166). -/
def decodeFdcCommand (v : Byte) : Instr :=
  match (v.extractLsb' 4 4).toNat with
  | 0x0 => .fdcCmdRestore v
  | 0x1 => .fdcCmdSeek v
  | 0x2 => .fdcCmdStep v
  | 0x3 => .fdcCmdStep v
  | 0x4 => .fdcCmdStepIn v
  | 0x5 => .fdcCmdStepIn v
  | 0x6 => .fdcCmdStepOut v
  | 0x7 => .fdcCmdStepOut v
  | 0x8 => .fdcCmdReadSector v
  | 0x9 => .fdcCmdReadSector v
  | 0xA => .fdcCmdWriteSector v
  | 0xB => .fdcCmdWriteSector v
  | 0xC => .fdcCmdReadAddress v
  | 0xD => .fdcCmdForceInterrupt v
  | 0xE => .fdcCmdReadTrack v
  | _ => .fdcCmdWriteTrack v

/-- The host's Tube register read of a register number (R175). -/
def decodeTubeHostRead (r : BitVec 3) : Instr :=
  match r.toNat with
  | 0 => .tubeHostRead0
  | 1 => .tubeHostRead1
  | 2 => .tubeHostRead2
  | 3 => .tubeHostRead3
  | 4 => .tubeHostRead4
  | 5 => .tubeHostRead5
  | 6 => .tubeHostRead6
  | _ => .tubeHostRead7

/-- The host's Tube register write of a register number (R175). -/
def decodeTubeHostWrite (r : BitVec 3) (v : Byte) : Instr :=
  match r.toNat with
  | 0 => .tubeHostWrite0 v
  | 1 => .tubeHostWrite1 v
  | 2 => .tubeHostWrite2 v
  | 3 => .tubeHostWrite3 v
  | 4 => .tubeHostWrite4 v
  | 5 => .tubeHostWrite5 v
  | 6 => .tubeHostWrite6 v
  | _ => .tubeHostWrite7 v

/-- The parasite's Tube register read of a register number (R175). -/
def decodeTubeParasiteRead (r : BitVec 3) : Instr :=
  match r.toNat with
  | 0 => .tubeParasiteRead0
  | 1 => .tubeParasiteRead1
  | 2 => .tubeParasiteRead2
  | 3 => .tubeParasiteRead3
  | 4 => .tubeParasiteRead4
  | 5 => .tubeParasiteRead5
  | 6 => .tubeParasiteRead6
  | _ => .tubeParasiteRead7

/-- The parasite's Tube register write of a register number (R175). -/
def decodeTubeParasiteWrite (r : BitVec 3) (v : Byte) : Instr :=
  match r.toNat with
  | 0 => .tubeParasiteWrite0 v
  | 1 => .tubeParasiteWrite1 v
  | 2 => .tubeParasiteWrite2 v
  | 3 => .tubeParasiteWrite3 v
  | 4 => .tubeParasiteWrite4 v
  | 5 => .tubeParasiteWrite5 v
  | 6 => .tubeParasiteWrite6 v
  | _ => .tubeParasiteWrite7 v

/-! ### Decoding any words -/

/-- The instruction that words stand for, or why they stand for none. -/
def decode (c : Code) : Except DecodeError Instr :=
  match c with
  | .cpu bytes =>
    match decodeBytes bytes with
    | .ok (i, []) => .ok i
    | .ok (_, _ :: _) => .error (.trailing (bytes.headD 0))
    | .error e => .error e
  | .viaRead id r => .ok (decodeViaRead id r)
  | .viaWrite id r v => .ok (decodeViaWrite id r v)
  | .fdcRead r => .ok (decodeFdcRead r)
  | .fdcWrite r v => .ok (decodeFdcWrite r v)
  | .fdcCommand v => .ok (decodeFdcCommand v)
  | .tubeRead .host r => .ok (decodeTubeHostRead r)
  | .tubeRead .parasite r => .ok (decodeTubeParasiteRead r)
  | .tubeWrite .host r v => .ok (decodeTubeHostWrite r v)
  | .tubeWrite .parasite r v => .ok (decodeTubeParasiteWrite r v)

/-- The `k`-th byte of an instruction whose bits are `w` (bit 0 the least significant bit of the first byte), of which
`nbits` are given and the others are 0. -/
def tableByte (nbits w k : Nat) : Byte := BitVec.ofNat 8 (w % 2 ^ nbits / 256 ^ k)

/-- The instruction the CPU's decoder reads from an instruction whose bits are `w`. -/
def decodeTableWord (nbits w : Nat) : Option Instr :=
  match decodeBytes [tableByte nbits w 0, tableByte nbits w 1, tableByte nbits w 2] with
  | .ok (i, _) => some i
  | .error _ => none

/-! ### The encoder -/

/-- The words of an instruction (R141, R144, R145, R160, R165, R166, R175). -/
def encode (i : Instr) : Code :=
  match i with
  | .oraIndx b => .cpu [0x01, b]
  | .oraZp b => .cpu [0x05, b]
  | .aslZp b => .cpu [0x06, b]
  | .oraImm v => .cpu [0x09, v]
  | .oraAbs w => .cpu [0x0D, w.setWidth 8, w.extractLsb' 8 8]
  | .aslAbs w => .cpu [0x0E, w.setWidth 8, w.extractLsb' 8 8]
  | .bpl off => .cpu [0x10, off]
  | .oraIndy b => .cpu [0x11, b]
  | .oraZpx b => .cpu [0x15, b]
  | .aslZpx b => .cpu [0x16, b]
  | .oraAbsy w => .cpu [0x19, w.setWidth 8, w.extractLsb' 8 8]
  | .oraAbsx w => .cpu [0x1D, w.setWidth 8, w.extractLsb' 8 8]
  | .aslAbsx w => .cpu [0x1E, w.setWidth 8, w.extractLsb' 8 8]
  | .jsrAbs w => .cpu [0x20, w.setWidth 8, w.extractLsb' 8 8]
  | .andIndx b => .cpu [0x21, b]
  | .bitZp b => .cpu [0x24, b]
  | .andZp b => .cpu [0x25, b]
  | .rolZp b => .cpu [0x26, b]
  | .andImm v => .cpu [0x29, v]
  | .bitAbs w => .cpu [0x2C, w.setWidth 8, w.extractLsb' 8 8]
  | .andAbs w => .cpu [0x2D, w.setWidth 8, w.extractLsb' 8 8]
  | .rolAbs w => .cpu [0x2E, w.setWidth 8, w.extractLsb' 8 8]
  | .bmi off => .cpu [0x30, off]
  | .andIndy b => .cpu [0x31, b]
  | .andZpx b => .cpu [0x35, b]
  | .rolZpx b => .cpu [0x36, b]
  | .andAbsy w => .cpu [0x39, w.setWidth 8, w.extractLsb' 8 8]
  | .andAbsx w => .cpu [0x3D, w.setWidth 8, w.extractLsb' 8 8]
  | .rolAbsx w => .cpu [0x3E, w.setWidth 8, w.extractLsb' 8 8]
  | .eorIndx b => .cpu [0x41, b]
  | .eorZp b => .cpu [0x45, b]
  | .lsrZp b => .cpu [0x46, b]
  | .eorImm v => .cpu [0x49, v]
  | .jmpAbs w => .cpu [0x4C, w.setWidth 8, w.extractLsb' 8 8]
  | .eorAbs w => .cpu [0x4D, w.setWidth 8, w.extractLsb' 8 8]
  | .lsrAbs w => .cpu [0x4E, w.setWidth 8, w.extractLsb' 8 8]
  | .bvc off => .cpu [0x50, off]
  | .eorIndy b => .cpu [0x51, b]
  | .eorZpx b => .cpu [0x55, b]
  | .lsrZpx b => .cpu [0x56, b]
  | .eorAbsy w => .cpu [0x59, w.setWidth 8, w.extractLsb' 8 8]
  | .eorAbsx w => .cpu [0x5D, w.setWidth 8, w.extractLsb' 8 8]
  | .lsrAbsx w => .cpu [0x5E, w.setWidth 8, w.extractLsb' 8 8]
  | .adcIndx b => .cpu [0x61, b]
  | .adcZp b => .cpu [0x65, b]
  | .rorZp b => .cpu [0x66, b]
  | .adcImm v => .cpu [0x69, v]
  | .jmpInd w => .cpu [0x6C, w.setWidth 8, w.extractLsb' 8 8]
  | .adcAbs w => .cpu [0x6D, w.setWidth 8, w.extractLsb' 8 8]
  | .rorAbs w => .cpu [0x6E, w.setWidth 8, w.extractLsb' 8 8]
  | .bvs off => .cpu [0x70, off]
  | .adcIndy b => .cpu [0x71, b]
  | .adcZpx b => .cpu [0x75, b]
  | .rorZpx b => .cpu [0x76, b]
  | .adcAbsy w => .cpu [0x79, w.setWidth 8, w.extractLsb' 8 8]
  | .adcAbsx w => .cpu [0x7D, w.setWidth 8, w.extractLsb' 8 8]
  | .rorAbsx w => .cpu [0x7E, w.setWidth 8, w.extractLsb' 8 8]
  | .staIndx b => .cpu [0x81, b]
  | .styZp b => .cpu [0x84, b]
  | .staZp b => .cpu [0x85, b]
  | .stxZp b => .cpu [0x86, b]
  | .styAbs w => .cpu [0x8C, w.setWidth 8, w.extractLsb' 8 8]
  | .staAbs w => .cpu [0x8D, w.setWidth 8, w.extractLsb' 8 8]
  | .stxAbs w => .cpu [0x8E, w.setWidth 8, w.extractLsb' 8 8]
  | .bcc off => .cpu [0x90, off]
  | .staIndy b => .cpu [0x91, b]
  | .styZpx b => .cpu [0x94, b]
  | .staZpx b => .cpu [0x95, b]
  | .stxZpy b => .cpu [0x96, b]
  | .staAbsy w => .cpu [0x99, w.setWidth 8, w.extractLsb' 8 8]
  | .staAbsx w => .cpu [0x9D, w.setWidth 8, w.extractLsb' 8 8]
  | .ldyImm v => .cpu [0xA0, v]
  | .ldaIndx b => .cpu [0xA1, b]
  | .ldxImm v => .cpu [0xA2, v]
  | .ldyZp b => .cpu [0xA4, b]
  | .ldaZp b => .cpu [0xA5, b]
  | .ldxZp b => .cpu [0xA6, b]
  | .ldaImm v => .cpu [0xA9, v]
  | .ldyAbs w => .cpu [0xAC, w.setWidth 8, w.extractLsb' 8 8]
  | .ldaAbs w => .cpu [0xAD, w.setWidth 8, w.extractLsb' 8 8]
  | .ldxAbs w => .cpu [0xAE, w.setWidth 8, w.extractLsb' 8 8]
  | .bcs off => .cpu [0xB0, off]
  | .ldaIndy b => .cpu [0xB1, b]
  | .ldyZpx b => .cpu [0xB4, b]
  | .ldaZpx b => .cpu [0xB5, b]
  | .ldxZpy b => .cpu [0xB6, b]
  | .ldaAbsy w => .cpu [0xB9, w.setWidth 8, w.extractLsb' 8 8]
  | .ldyAbsx w => .cpu [0xBC, w.setWidth 8, w.extractLsb' 8 8]
  | .ldaAbsx w => .cpu [0xBD, w.setWidth 8, w.extractLsb' 8 8]
  | .ldxAbsy w => .cpu [0xBE, w.setWidth 8, w.extractLsb' 8 8]
  | .cpyImm v => .cpu [0xC0, v]
  | .cmpIndx b => .cpu [0xC1, b]
  | .cpyZp b => .cpu [0xC4, b]
  | .cmpZp b => .cpu [0xC5, b]
  | .decZp b => .cpu [0xC6, b]
  | .cmpImm v => .cpu [0xC9, v]
  | .cpyAbs w => .cpu [0xCC, w.setWidth 8, w.extractLsb' 8 8]
  | .cmpAbs w => .cpu [0xCD, w.setWidth 8, w.extractLsb' 8 8]
  | .decAbs w => .cpu [0xCE, w.setWidth 8, w.extractLsb' 8 8]
  | .bne off => .cpu [0xD0, off]
  | .cmpIndy b => .cpu [0xD1, b]
  | .cmpZpx b => .cpu [0xD5, b]
  | .decZpx b => .cpu [0xD6, b]
  | .cmpAbsy w => .cpu [0xD9, w.setWidth 8, w.extractLsb' 8 8]
  | .cmpAbsx w => .cpu [0xDD, w.setWidth 8, w.extractLsb' 8 8]
  | .decAbsx w => .cpu [0xDE, w.setWidth 8, w.extractLsb' 8 8]
  | .cpxImm v => .cpu [0xE0, v]
  | .sbcIndx b => .cpu [0xE1, b]
  | .cpxZp b => .cpu [0xE4, b]
  | .sbcZp b => .cpu [0xE5, b]
  | .incZp b => .cpu [0xE6, b]
  | .sbcImm v => .cpu [0xE9, v]
  | .cpxAbs w => .cpu [0xEC, w.setWidth 8, w.extractLsb' 8 8]
  | .sbcAbs w => .cpu [0xED, w.setWidth 8, w.extractLsb' 8 8]
  | .incAbs w => .cpu [0xEE, w.setWidth 8, w.extractLsb' 8 8]
  | .beq off => .cpu [0xF0, off]
  | .sbcIndy b => .cpu [0xF1, b]
  | .sbcZpx b => .cpu [0xF5, b]
  | .incZpx b => .cpu [0xF6, b]
  | .sbcAbsy w => .cpu [0xF9, w.setWidth 8, w.extractLsb' 8 8]
  | .sbcAbsx w => .cpu [0xFD, w.setWidth 8, w.extractLsb' 8 8]
  | .incAbsx w => .cpu [0xFE, w.setWidth 8, w.extractLsb' 8 8]
  | .viaReadOrb id => .viaRead id 0
  | .viaWriteOrb id v => .viaWrite id 0 v
  | .viaReadOra id => .viaRead id 1
  | .viaWriteOra id v => .viaWrite id 1 v
  | .viaReadDdrb id => .viaRead id 2
  | .viaWriteDdrb id v => .viaWrite id 2 v
  | .viaReadDdra id => .viaRead id 3
  | .viaWriteDdra id v => .viaWrite id 3 v
  | .viaReadT1cl id => .viaRead id 4
  | .viaWriteT1cl id v => .viaWrite id 4 v
  | .viaReadT1ch id => .viaRead id 5
  | .viaWriteT1ch id v => .viaWrite id 5 v
  | .viaReadT1ll id => .viaRead id 6
  | .viaWriteT1ll id v => .viaWrite id 6 v
  | .viaReadT1lh id => .viaRead id 7
  | .viaWriteT1lh id v => .viaWrite id 7 v
  | .viaReadT2cl id => .viaRead id 8
  | .viaWriteT2cl id v => .viaWrite id 8 v
  | .viaReadT2ch id => .viaRead id 9
  | .viaWriteT2ch id v => .viaWrite id 9 v
  | .viaReadSr id => .viaRead id 10
  | .viaWriteSr id v => .viaWrite id 10 v
  | .viaReadAcr id => .viaRead id 11
  | .viaWriteAcr id v => .viaWrite id 11 v
  | .viaReadPcr id => .viaRead id 12
  | .viaWritePcr id v => .viaWrite id 12 v
  | .viaReadIfr id => .viaRead id 13
  | .viaWriteIfr id v => .viaWrite id 13 v
  | .viaReadIer id => .viaRead id 14
  | .viaWriteIer id v => .viaWrite id 14 v
  | .viaReadOraF id => .viaRead id 15
  | .viaWriteOraF id v => .viaWrite id 15 v
  | .fdcWriteCommand v => .fdcWrite 0 v
  | .fdcWriteTrack v => .fdcWrite 1 v
  | .fdcWriteSector v => .fdcWrite 2 v
  | .fdcWriteData v => .fdcWrite 3 v
  | .fdcCmdRestore v => .fdcCommand v
  | .fdcCmdSeek v => .fdcCommand v
  | .fdcCmdStep v => .fdcCommand v
  | .fdcCmdStepIn v => .fdcCommand v
  | .fdcCmdStepOut v => .fdcCommand v
  | .fdcCmdReadSector v => .fdcCommand v
  | .fdcCmdWriteSector v => .fdcCommand v
  | .fdcCmdReadAddress v => .fdcCommand v
  | .fdcCmdForceInterrupt v => .fdcCommand v
  | .fdcCmdReadTrack v => .fdcCommand v
  | .fdcCmdWriteTrack v => .fdcCommand v
  | .tubeHostWrite0 v => .tubeWrite .host 0 v
  | .tubeParasiteWrite0 v => .tubeWrite .parasite 0 v
  | .tubeHostWrite1 v => .tubeWrite .host 1 v
  | .tubeParasiteWrite1 v => .tubeWrite .parasite 1 v
  | .tubeHostWrite2 v => .tubeWrite .host 2 v
  | .tubeParasiteWrite2 v => .tubeWrite .parasite 2 v
  | .tubeHostWrite3 v => .tubeWrite .host 3 v
  | .tubeParasiteWrite3 v => .tubeWrite .parasite 3 v
  | .tubeHostWrite4 v => .tubeWrite .host 4 v
  | .tubeParasiteWrite4 v => .tubeWrite .parasite 4 v
  | .tubeHostWrite5 v => .tubeWrite .host 5 v
  | .tubeParasiteWrite5 v => .tubeWrite .parasite 5 v
  | .tubeHostWrite6 v => .tubeWrite .host 6 v
  | .tubeParasiteWrite6 v => .tubeWrite .parasite 6 v
  | .tubeHostWrite7 v => .tubeWrite .host 7 v
  | .tubeParasiteWrite7 v => .tubeWrite .parasite 7 v
  | .brk => .cpu [0x00]
  | .php => .cpu [0x08]
  | .aslAcc => .cpu [0x0A]
  | .clc => .cpu [0x18]
  | .plp => .cpu [0x28]
  | .rolAcc => .cpu [0x2A]
  | .sec => .cpu [0x38]
  | .rti => .cpu [0x40]
  | .pha => .cpu [0x48]
  | .lsrAcc => .cpu [0x4A]
  | .cli => .cpu [0x58]
  | .rts => .cpu [0x60]
  | .pla => .cpu [0x68]
  | .rorAcc => .cpu [0x6A]
  | .sei => .cpu [0x78]
  | .dey => .cpu [0x88]
  | .txa => .cpu [0x8A]
  | .tya => .cpu [0x98]
  | .txs => .cpu [0x9A]
  | .tay => .cpu [0xA8]
  | .tax => .cpu [0xAA]
  | .clv => .cpu [0xB8]
  | .tsx => .cpu [0xBA]
  | .iny => .cpu [0xC8]
  | .dex => .cpu [0xCA]
  | .cld => .cpu [0xD8]
  | .inx => .cpu [0xE8]
  | .nop => .cpu [0xEA]
  | .sed => .cpu [0xF8]
  | .reserved02 => .cpu [0x02]
  | .reserved03 => .cpu [0x03]
  | .reserved04 => .cpu [0x04]
  | .reserved07 => .cpu [0x07]
  | .reserved0B => .cpu [0x0B]
  | .reserved0C => .cpu [0x0C]
  | .reserved0F => .cpu [0x0F]
  | .reserved12 => .cpu [0x12]
  | .reserved13 => .cpu [0x13]
  | .reserved14 => .cpu [0x14]
  | .reserved17 => .cpu [0x17]
  | .reserved1A => .cpu [0x1A]
  | .reserved1B => .cpu [0x1B]
  | .reserved1C => .cpu [0x1C]
  | .reserved1F => .cpu [0x1F]
  | .reserved22 => .cpu [0x22]
  | .reserved23 => .cpu [0x23]
  | .reserved27 => .cpu [0x27]
  | .reserved2B => .cpu [0x2B]
  | .reserved2F => .cpu [0x2F]
  | .reserved32 => .cpu [0x32]
  | .reserved33 => .cpu [0x33]
  | .reserved34 => .cpu [0x34]
  | .reserved37 => .cpu [0x37]
  | .reserved3A => .cpu [0x3A]
  | .reserved3B => .cpu [0x3B]
  | .reserved3C => .cpu [0x3C]
  | .reserved3F => .cpu [0x3F]
  | .reserved42 => .cpu [0x42]
  | .reserved43 => .cpu [0x43]
  | .reserved44 => .cpu [0x44]
  | .reserved47 => .cpu [0x47]
  | .reserved4B => .cpu [0x4B]
  | .reserved4F => .cpu [0x4F]
  | .reserved52 => .cpu [0x52]
  | .reserved53 => .cpu [0x53]
  | .reserved54 => .cpu [0x54]
  | .reserved57 => .cpu [0x57]
  | .reserved5A => .cpu [0x5A]
  | .reserved5B => .cpu [0x5B]
  | .reserved5C => .cpu [0x5C]
  | .reserved5F => .cpu [0x5F]
  | .reserved62 => .cpu [0x62]
  | .reserved63 => .cpu [0x63]
  | .reserved64 => .cpu [0x64]
  | .reserved67 => .cpu [0x67]
  | .reserved6B => .cpu [0x6B]
  | .reserved6F => .cpu [0x6F]
  | .reserved72 => .cpu [0x72]
  | .reserved73 => .cpu [0x73]
  | .reserved74 => .cpu [0x74]
  | .reserved77 => .cpu [0x77]
  | .reserved7A => .cpu [0x7A]
  | .reserved7B => .cpu [0x7B]
  | .reserved7C => .cpu [0x7C]
  | .reserved7F => .cpu [0x7F]
  | .reserved80 => .cpu [0x80]
  | .reserved82 => .cpu [0x82]
  | .reserved83 => .cpu [0x83]
  | .reserved87 => .cpu [0x87]
  | .reserved89 => .cpu [0x89]
  | .reserved8B => .cpu [0x8B]
  | .reserved8F => .cpu [0x8F]
  | .reserved92 => .cpu [0x92]
  | .reserved93 => .cpu [0x93]
  | .reserved97 => .cpu [0x97]
  | .reserved9B => .cpu [0x9B]
  | .reserved9C => .cpu [0x9C]
  | .reserved9E => .cpu [0x9E]
  | .reserved9F => .cpu [0x9F]
  | .reservedA3 => .cpu [0xA3]
  | .reservedA7 => .cpu [0xA7]
  | .reservedAB => .cpu [0xAB]
  | .reservedAF => .cpu [0xAF]
  | .reservedB2 => .cpu [0xB2]
  | .reservedB3 => .cpu [0xB3]
  | .reservedB7 => .cpu [0xB7]
  | .reservedBB => .cpu [0xBB]
  | .reservedBF => .cpu [0xBF]
  | .reservedC2 => .cpu [0xC2]
  | .reservedC3 => .cpu [0xC3]
  | .reservedC7 => .cpu [0xC7]
  | .reservedCB => .cpu [0xCB]
  | .reservedCF => .cpu [0xCF]
  | .reservedD2 => .cpu [0xD2]
  | .reservedD3 => .cpu [0xD3]
  | .reservedD4 => .cpu [0xD4]
  | .reservedD7 => .cpu [0xD7]
  | .reservedDA => .cpu [0xDA]
  | .reservedDB => .cpu [0xDB]
  | .reservedDC => .cpu [0xDC]
  | .reservedDF => .cpu [0xDF]
  | .reservedE2 => .cpu [0xE2]
  | .reservedE3 => .cpu [0xE3]
  | .reservedE7 => .cpu [0xE7]
  | .reservedEB => .cpu [0xEB]
  | .reservedEF => .cpu [0xEF]
  | .reservedF2 => .cpu [0xF2]
  | .reservedF3 => .cpu [0xF3]
  | .reservedF4 => .cpu [0xF4]
  | .reservedF7 => .cpu [0xF7]
  | .reservedFA => .cpu [0xFA]
  | .reservedFB => .cpu [0xFB]
  | .reservedFC => .cpu [0xFC]
  | .reservedFF => .cpu [0xFF]
  | .fdcReadStatus => .fdcRead 0
  | .fdcReadTrack => .fdcRead 1
  | .fdcReadSector => .fdcRead 2
  | .fdcReadData => .fdcRead 3
  | .tubeHostRead0 => .tubeRead .host 0
  | .tubeParasiteRead0 => .tubeRead .parasite 0
  | .tubeHostRead1 => .tubeRead .host 1
  | .tubeParasiteRead1 => .tubeRead .parasite 1
  | .tubeHostRead2 => .tubeRead .host 2
  | .tubeParasiteRead2 => .tubeRead .parasite 2
  | .tubeHostRead3 => .tubeRead .host 3
  | .tubeParasiteRead3 => .tubeRead .parasite 3
  | .tubeHostRead4 => .tubeRead .host 4
  | .tubeParasiteRead4 => .tubeRead .parasite 4
  | .tubeHostRead5 => .tubeRead .host 5
  | .tubeParasiteRead5 => .tubeRead .parasite 5
  | .tubeHostRead6 => .tubeRead .host 6
  | .tubeParasiteRead6 => .tubeRead .parasite 6
  | .tubeHostRead7 => .tubeRead .host 7
  | .tubeParasiteRead7 => .tubeRead .parasite 7

end Sys2Proof
end

