-- ==== Sys2Proof/Machine/Fetch.lean ====
section
/-! DEFINITION. What a step does before an instruction's meaning: the boundary's choice (R192, R620), the opcode fetch (R193),
the operand bytes (R141, R202 to R212), and the placing of an instruction where the next fetch finds it. -/

namespace Sys2Proof.Machine

/-- What starts at an instruction boundary (R192, R620): reset first, then NMI, then an unmasked IRQ, else an
instruction. -/
def nextSequence (s : State) : SeqKind :=
  if s.cpu.resetReq then .resetSeq
  else if s.cpu.nmiPending then .nmiSeq
  else if s.cpu.irqLine && !s.cpu.p.i then .irqSeq
  else .instr

/-- A step's own records, the bus cycles and the drive-handler calls, start empty (log entries 6 and 8). -/
def clearRecords (s : State) : State :=
  { s with bus := [], fdc := { s.fdc with drive := { s.fdc.drive with calls := [] } } }

/-- One program byte: a read cycle at PC, then `PC+` (R193, R213). -/
def fetchByte (s : State) : Byte × State :=
  let r := readCycle s.cpu.pc s
  (r.1, r.2.incPc)

/-- The opcode fetch, cycle 1 (R193): IR is loaded. -/
def fetchOpcode (s : State) : Byte × State :=
  let r := fetchByte (s.setSeq .instr)
  (r.1, r.2.setIr r.1)

/-- One operand byte (R202 to R212), kept in the operand latch (R26). -/
def fetchOperand (s : State) : Byte × State :=
  let r := fetchByte s
  (r.1, r.2.setOpnd r.1)

/-- Fetch the opcode and the operand bytes its format asks for, and decode what the bus delivered (R194). JSR's last byte
is read in cycle 6, after its pushes (R352): here it is only named to the decoder as memory holds it, without a bus cycle,
and the meaning reads it itself (log entry 18). -/
def fetch (s : State) : Instr × State :=
  let op := fetchOpcode s
  if op.1 = 0x20 then
    let b1 := fetchOperand op.2
    (decodeOpcode op.1 b1.1 (b1.2.peek b1.2.cpu.pc), b1.2)
  else
    match operandCount op.1 with
    | 0 => (decodeOpcode op.1 0 0, op.2)
    | 1 =>
      let b1 := fetchOperand op.2
      (decodeOpcode op.1 b1.1 0, b1.2)
    | _ =>
      let b1 := fetchOperand op.2
      let b2 := fetchOperand b1.2
      (decodeOpcode op.1 b1.1 b2.1, b2.2)

/-- Three bytes stored in memory from PC on. -/
def placeBytes (b0 b1 b2 : Byte) (s : State) : State :=
  { s with mem :=
      Memory.write (Memory.write (Memory.write s.mem s.cpu.pc.toNat b0) (s.cpu.pc + 1).toNat b1) (s.cpu.pc + 2).toNat b2 }

/-- No sequence is waiting at the boundary, so that the next step is an instruction. -/
def quiet (s : State) : State :=
  s.setCpu { s.cpu with resetReq := false, nmiPending := false, irqLine := false }

end Sys2Proof.Machine
end

