-- ==== Sys2Proof/Machine/Step.lean ====
section
/-! DEFINITION. One step of the machine: what the boundary chooses (R192, R620), run to its end (R218). -/

namespace Sys2Proof.Machine

/-- One step: a reset, NMI or IRQ sequence, or one instruction, with all of its bus cycles. -/
def step (s : State) : Host.Outcome State Fault Refusal :=
  match nextSequence s with
  | .resetSeq => resetSeq (clearRecords s)
  | .nmiSeq => nmiSeq (clearRecords s)
  | .irqSeq => irqSeq (clearRecords s)
  | .instr => exec (fetch (clearRecords s)).1 (fetch (clearRecords s)).2

/-- `s` with an instruction whose bits are `w` stored at PC, and no sequence waiting at the boundary, so that the next step
fetches and runs it; PC must stand in memory, as it does after reset. See log entry 5 for how a program comes to run. -/
def State.withFetchWord (s : State) (nbits w : Nat) : State :=
  quiet (placeBytes (tableByte nbits w 0) (tableByte nbits w 1) (tableByte nbits w 2) s)

end Sys2Proof.Machine
end

