-- ==== Sys2Proof/Safety.lean ====
section
/-! DEFINITION. The vocabulary of claims: the CPU's registers and the rest of the machine as views of a state, plain memory,
accepted writes, the forms of each class of instructions with the effect their rule gives them on the registers, the
addressing modes read off memory, and the invariant of instruction boundaries. -/

namespace Sys2Proof.Machine

/-! ### Views of a state -/

/-- The CPU's registers (R21 to R24). -/
structure Regs where
  a : Byte
  x : Byte
  y : Byte
  s : Byte
  pc : Word
  p : Flags
  ir : Byte
deriving DecidableEq, Repr

/-- The registers of a state. -/
def State.regs (s : State) : Regs :=
  { a := s.cpu.a, x := s.cpu.x, y := s.cpu.y, s := s.cpu.s, pc := s.cpu.pc, p := s.cpu.p, ir := s.cpu.ir }

/-- Everything outside the CPU's own registers, its latches, memory and the record of bus cycles: the parameters, the
devices, the environment and the interrupt inputs. -/
structure World where
  cfg : Config
  sysVia : Via
  usrVia : Via
  fdc : Fdc
  tube : Tube
  env : EnvLevels
  script : List EnvInput
  fdcPhase : Nat
  freeReads : Nat
  irqLine : Bool
  nmiLine : Bool
  nmiPending : Bool
  resetReq : Bool
deriving DecidableEq, Repr

/-- The world of a state. -/
def State.world (s : State) : World :=
  { cfg := s.cfg, sysVia := s.sysVia, usrVia := s.usrVia, fdc := s.fdc, tube := s.tube, env := s.env, script := s.script
    fdcPhase := s.fdcPhase, freeReads := s.freeReads, irqLine := s.cpu.irqLine, nmiLine := s.cpu.nmiLine
    nmiPending := s.cpu.nmiPending, resetReq := s.cpu.resetReq }

/-- One system cycle in which nothing is accessed but memory (R114): what passes for the devices. -/
def State.idleCycle (s : State) : State := s.beginCycle.endCycle

/-- That many such cycles. -/
def State.idleCycles : Nat → State → State
  | 0, s => s
  | n + 1, s => State.idleCycles n s.idleCycle

/-- The address belongs to memory, not to a device or to nothing. -/
def Plain (cfg : Config) (a : Word) : Prop := target cfg a = .ram ∨ target cfg a = .rom

/-- A write of `v` to `a` that the model cannot refuse: not a Read Track or Write Track command byte to the FDC's command
register (R521, R522). -/
def Accepts (cfg : Config) (a : Word) (v : Byte) : Bool :=
  !(target cfg a == .fdc && fdcReg a == 0 && decide (0xE0 ≤ v.toNat))

/-- The bytes of memory after one byte is written: only RAM takes it (R102). -/
def stored (cfg : Config) (a : Word) (v : Byte) (bytes : Word → Byte) : Word → Byte :=
  fun b => if target cfg a = .ram ∧ b = a then v else bytes b

/-- The stack address of a stack pointer (R10, R21). -/
def stackAt (cfg : Config) (sp : Byte) : Word := cfg.stackPage + zext16 sp

/-- The bytes of memory after PCH, PCL and a flags byte are pushed from stack pointer `sp` on (R606). -/
def frame (cfg : Config) (sp : Byte) (pc : Word) (flags : Byte) (bytes : Word → Byte) : Word → Byte :=
  stored cfg (stackAt cfg (sp - 2)) flags
    (stored cfg (stackAt cfg (sp - 1)) (loByte pc) (stored cfg (stackAt cfg sp) (hiByte pc) bytes))

/-- The state stands at an instruction boundary (R28, R192). -/
def AtBoundary (s : State) : Prop := s.cpu.seq = .instr ∧ s.cpu.tcycle = 1 ∧ s.cpu.fix = false

/-! ### Classes of instructions (R196) -/

/-- The operations of the Read class. -/
inductive ReadKind where
  | lda | ldx | ldy | adc | sbc | and | ora | eor | cmp | cpx | cpy | bit
deriving DecidableEq, Repr

/-- What a Read-class operation with operand `m` makes of the registers (R250 to R252, R290 to R298). -/
def ReadKind.effect (k : ReadKind) (m : Byte) (r : Regs) : Regs :=
  match k with
  | .lda => { r with a := m, p := r.p.setNZ m }
  | .ldx => { r with x := m, p := r.p.setNZ m }
  | .ldy => { r with y := m, p := r.p.setNZ m }
  | .adc => { r with a := (adcResult r.a m r.p).a, p := (adcResult r.a m r.p).p }
  | .sbc => { r with a := (sbcResult r.a m r.p).a, p := (sbcResult r.a m r.p).p }
  | .and => { r with a := r.a &&& m, p := r.p.setNZ (r.a &&& m) }
  | .ora => { r with a := r.a ||| m, p := r.p.setNZ (r.a ||| m) }
  | .eor => { r with a := r.a ^^^ m, p := r.p.setNZ (r.a ^^^ m) }
  | .cmp => { r with p := r.p.compare r.a m }
  | .cpx => { r with p := r.p.compare r.x m }
  | .cpy => { r with p := r.p.compare r.y m }
  | .bit => { r with p := r.p.bitTest r.a m }

/-- The Read-class instructions with a memory operand. -/
def readForm (i : Instr) : Option (ReadKind × Operand) :=
  match i with
  | .oraIndx b => some (.ora, .indx b)
  | .oraZp b => some (.ora, .zp b)
  | .oraAbs w => some (.ora, .abs w)
  | .oraIndy b => some (.ora, .indy b)
  | .oraZpx b => some (.ora, .zpx b)
  | .oraAbsy w => some (.ora, .absy w)
  | .oraAbsx w => some (.ora, .absx w)
  | .andIndx b => some (.and, .indx b)
  | .bitZp b => some (.bit, .zp b)
  | .andZp b => some (.and, .zp b)
  | .bitAbs w => some (.bit, .abs w)
  | .andAbs w => some (.and, .abs w)
  | .andIndy b => some (.and, .indy b)
  | .andZpx b => some (.and, .zpx b)
  | .andAbsy w => some (.and, .absy w)
  | .andAbsx w => some (.and, .absx w)
  | .eorIndx b => some (.eor, .indx b)
  | .eorZp b => some (.eor, .zp b)
  | .eorAbs w => some (.eor, .abs w)
  | .eorIndy b => some (.eor, .indy b)
  | .eorZpx b => some (.eor, .zpx b)
  | .eorAbsy w => some (.eor, .absy w)
  | .eorAbsx w => some (.eor, .absx w)
  | .adcIndx b => some (.adc, .indx b)
  | .adcZp b => some (.adc, .zp b)
  | .adcAbs w => some (.adc, .abs w)
  | .adcIndy b => some (.adc, .indy b)
  | .adcZpx b => some (.adc, .zpx b)
  | .adcAbsy w => some (.adc, .absy w)
  | .adcAbsx w => some (.adc, .absx w)
  | .ldaIndx b => some (.lda, .indx b)
  | .ldyZp b => some (.ldy, .zp b)
  | .ldaZp b => some (.lda, .zp b)
  | .ldxZp b => some (.ldx, .zp b)
  | .ldyAbs w => some (.ldy, .abs w)
  | .ldaAbs w => some (.lda, .abs w)
  | .ldxAbs w => some (.ldx, .abs w)
  | .ldaIndy b => some (.lda, .indy b)
  | .ldyZpx b => some (.ldy, .zpx b)
  | .ldaZpx b => some (.lda, .zpx b)
  | .ldxZpy b => some (.ldx, .zpy b)
  | .ldaAbsy w => some (.lda, .absy w)
  | .ldyAbsx w => some (.ldy, .absx w)
  | .ldaAbsx w => some (.lda, .absx w)
  | .ldxAbsy w => some (.ldx, .absy w)
  | .cmpIndx b => some (.cmp, .indx b)
  | .cpyZp b => some (.cpy, .zp b)
  | .cmpZp b => some (.cmp, .zp b)
  | .cpyAbs w => some (.cpy, .abs w)
  | .cmpAbs w => some (.cmp, .abs w)
  | .cmpIndy b => some (.cmp, .indy b)
  | .cmpZpx b => some (.cmp, .zpx b)
  | .cmpAbsy w => some (.cmp, .absy w)
  | .cmpAbsx w => some (.cmp, .absx w)
  | .sbcIndx b => some (.sbc, .indx b)
  | .cpxZp b => some (.cpx, .zp b)
  | .sbcZp b => some (.sbc, .zp b)
  | .cpxAbs w => some (.cpx, .abs w)
  | .sbcAbs w => some (.sbc, .abs w)
  | .sbcIndy b => some (.sbc, .indy b)
  | .sbcZpx b => some (.sbc, .zpx b)
  | .sbcAbsy w => some (.sbc, .absy w)
  | .sbcAbsx w => some (.sbc, .absx w)
  | _ => none

/-- The immediate instructions. -/
def immForm (i : Instr) : Option (ReadKind × Byte) :=
  match i with
  | .oraImm v => some (.ora, v)
  | .andImm v => some (.and, v)
  | .eorImm v => some (.eor, v)
  | .adcImm v => some (.adc, v)
  | .ldyImm v => some (.ldy, v)
  | .ldxImm v => some (.ldx, v)
  | .ldaImm v => some (.lda, v)
  | .cpyImm v => some (.cpy, v)
  | .cmpImm v => some (.cmp, v)
  | .cpxImm v => some (.cpx, v)
  | .sbcImm v => some (.sbc, v)
  | _ => none

/-- The operations of the Write class. -/
inductive StoreKind where
  | sta | stx | sty
deriving DecidableEq, Repr

/-- The register a Write-class instruction stores (R253 to R255). -/
def StoreKind.value (k : StoreKind) (r : Regs) : Byte :=
  match k with
  | .sta => r.a
  | .stx => r.x
  | .sty => r.y

/-- The Write-class instructions. -/
def storeForm (i : Instr) : Option (StoreKind × Operand) :=
  match i with
  | .staIndx b => some (.sta, .indx b)
  | .styZp b => some (.sty, .zp b)
  | .staZp b => some (.sta, .zp b)
  | .stxZp b => some (.stx, .zp b)
  | .styAbs w => some (.sty, .abs w)
  | .staAbs w => some (.sta, .abs w)
  | .stxAbs w => some (.stx, .abs w)
  | .staIndy b => some (.sta, .indy b)
  | .styZpx b => some (.sty, .zpx b)
  | .staZpx b => some (.sta, .zpx b)
  | .stxZpy b => some (.stx, .zpy b)
  | .staAbsy w => some (.sta, .absy w)
  | .staAbsx w => some (.sta, .absx w)
  | _ => none

/-- The operations of the RMW class. -/
inductive RmwKind where
  | asl | lsr | rol | ror | inc | dec
deriving DecidableEq, Repr

/-- The result and the flags of an RMW operation (R299, R300, R305 to R308). -/
def RmwKind.result (k : RmwKind) (m : Byte) (p : Flags) : ByteResult :=
  match k with
  | .asl => aslResult m p
  | .lsr => lsrResult m p
  | .rol => rolResult m p
  | .ror => rorResult m p
  | .inc => incResult m p
  | .dec => decResult m p

/-- The RMW instructions with a memory operand. -/
def rmwForm (i : Instr) : Option (RmwKind × Operand) :=
  match i with
  | .aslZp b => some (.asl, .zp b)
  | .aslAbs w => some (.asl, .abs w)
  | .aslZpx b => some (.asl, .zpx b)
  | .aslAbsx w => some (.asl, .absx w)
  | .rolZp b => some (.rol, .zp b)
  | .rolAbs w => some (.rol, .abs w)
  | .rolZpx b => some (.rol, .zpx b)
  | .rolAbsx w => some (.rol, .absx w)
  | .lsrZp b => some (.lsr, .zp b)
  | .lsrAbs w => some (.lsr, .abs w)
  | .lsrZpx b => some (.lsr, .zpx b)
  | .lsrAbsx w => some (.lsr, .absx w)
  | .rorZp b => some (.ror, .zp b)
  | .rorAbs w => some (.ror, .abs w)
  | .rorZpx b => some (.ror, .zpx b)
  | .rorAbsx w => some (.ror, .absx w)
  | .decZp b => some (.dec, .zp b)
  | .decAbs w => some (.dec, .abs w)
  | .decZpx b => some (.dec, .zpx b)
  | .decAbsx w => some (.dec, .absx w)
  | .incZp b => some (.inc, .zp b)
  | .incAbs w => some (.inc, .abs w)
  | .incZpx b => some (.inc, .zpx b)
  | .incAbsx w => some (.inc, .absx w)
  | _ => none

/-- The accumulator forms. -/
def accForm (i : Instr) : Option RmwKind :=
  match i with
  | .aslAcc => some .asl
  | .rolAcc => some .rol
  | .lsrAcc => some .lsr
  | .rorAcc => some .ror
  | _ => none

/-- The instructions of the Implied class with what each makes of the registers (R256 to R261, R301 to R304, R356,
R366 to R372). -/
def impliedForm (i : Instr) : Option (Regs → Regs) :=
  match i with
  | .tax => some fun r => { r with x := r.a, p := r.p.setNZ r.a }
  | .tay => some fun r => { r with y := r.a, p := r.p.setNZ r.a }
  | .txa => some fun r => { r with a := r.x, p := r.p.setNZ r.x }
  | .tya => some fun r => { r with a := r.y, p := r.p.setNZ r.y }
  | .tsx => some fun r => { r with x := r.s, p := r.p.setNZ r.s }
  | .txs => some fun r => { r with s := r.x }
  | .inx => some fun r => { r with x := r.x + 1, p := r.p.setNZ (r.x + 1) }
  | .iny => some fun r => { r with y := r.y + 1, p := r.p.setNZ (r.y + 1) }
  | .dex => some fun r => { r with x := r.x - 1, p := r.p.setNZ (r.x - 1) }
  | .dey => some fun r => { r with y := r.y - 1, p := r.p.setNZ (r.y - 1) }
  | .clc => some fun r => { r with p := { r.p with c := false } }
  | .sec => some fun r => { r with p := { r.p with c := true } }
  | .cli => some fun r => { r with p := { r.p with i := false } }
  | .sei => some fun r => { r with p := { r.p with i := true } }
  | .cld => some fun r => { r with p := { r.p with d := false } }
  | .sed => some fun r => { r with p := { r.p with d := true } }
  | .clv => some fun r => { r with p := { r.p with v := false } }
  | .nop => some fun r => r
  | _ => none

/-- The conditional branches with the condition of each (R358 to R365). -/
def branchForm (i : Instr) : Option ((Flags → Bool) × Byte) :=
  match i with
  | .bcc off => some (fun p => p.c == false, off)
  | .bcs off => some (fun p => p.c == true, off)
  | .beq off => some (fun p => p.z == true, off)
  | .bne off => some (fun p => p.z == false, off)
  | .bmi off => some (fun p => p.n == true, off)
  | .bpl off => some (fun p => p.n == false, off)
  | .bvc off => some (fun p => p.v == false, off)
  | .bvs off => some (fun p => p.v == true, off)
  | _ => none

/-- The opcodes the spec reserves (R147). -/
def reservedForm (i : Instr) : Option Byte :=
  match i with
  | .reserved02 => some 0x02
  | .reserved03 => some 0x03
  | .reserved04 => some 0x04
  | .reserved07 => some 0x07
  | .reserved0B => some 0x0B
  | .reserved0C => some 0x0C
  | .reserved0F => some 0x0F
  | .reserved12 => some 0x12
  | .reserved13 => some 0x13
  | .reserved14 => some 0x14
  | .reserved17 => some 0x17
  | .reserved1A => some 0x1A
  | .reserved1B => some 0x1B
  | .reserved1C => some 0x1C
  | .reserved1F => some 0x1F
  | .reserved22 => some 0x22
  | .reserved23 => some 0x23
  | .reserved27 => some 0x27
  | .reserved2B => some 0x2B
  | .reserved2F => some 0x2F
  | .reserved32 => some 0x32
  | .reserved33 => some 0x33
  | .reserved34 => some 0x34
  | .reserved37 => some 0x37
  | .reserved3A => some 0x3A
  | .reserved3B => some 0x3B
  | .reserved3C => some 0x3C
  | .reserved3F => some 0x3F
  | .reserved42 => some 0x42
  | .reserved43 => some 0x43
  | .reserved44 => some 0x44
  | .reserved47 => some 0x47
  | .reserved4B => some 0x4B
  | .reserved4F => some 0x4F
  | .reserved52 => some 0x52
  | .reserved53 => some 0x53
  | .reserved54 => some 0x54
  | .reserved57 => some 0x57
  | .reserved5A => some 0x5A
  | .reserved5B => some 0x5B
  | .reserved5C => some 0x5C
  | .reserved5F => some 0x5F
  | .reserved62 => some 0x62
  | .reserved63 => some 0x63
  | .reserved64 => some 0x64
  | .reserved67 => some 0x67
  | .reserved6B => some 0x6B
  | .reserved6F => some 0x6F
  | .reserved72 => some 0x72
  | .reserved73 => some 0x73
  | .reserved74 => some 0x74
  | .reserved77 => some 0x77
  | .reserved7A => some 0x7A
  | .reserved7B => some 0x7B
  | .reserved7C => some 0x7C
  | .reserved7F => some 0x7F
  | .reserved80 => some 0x80
  | .reserved82 => some 0x82
  | .reserved83 => some 0x83
  | .reserved87 => some 0x87
  | .reserved89 => some 0x89
  | .reserved8B => some 0x8B
  | .reserved8F => some 0x8F
  | .reserved92 => some 0x92
  | .reserved93 => some 0x93
  | .reserved97 => some 0x97
  | .reserved9B => some 0x9B
  | .reserved9C => some 0x9C
  | .reserved9E => some 0x9E
  | .reserved9F => some 0x9F
  | .reservedA3 => some 0xA3
  | .reservedA7 => some 0xA7
  | .reservedAB => some 0xAB
  | .reservedAF => some 0xAF
  | .reservedB2 => some 0xB2
  | .reservedB3 => some 0xB3
  | .reservedB7 => some 0xB7
  | .reservedBB => some 0xBB
  | .reservedBF => some 0xBF
  | .reservedC2 => some 0xC2
  | .reservedC3 => some 0xC3
  | .reservedC7 => some 0xC7
  | .reservedCB => some 0xCB
  | .reservedCF => some 0xCF
  | .reservedD2 => some 0xD2
  | .reservedD3 => some 0xD3
  | .reservedD4 => some 0xD4
  | .reservedD7 => some 0xD7
  | .reservedDA => some 0xDA
  | .reservedDB => some 0xDB
  | .reservedDC => some 0xDC
  | .reservedDF => some 0xDF
  | .reservedE2 => some 0xE2
  | .reservedE3 => some 0xE3
  | .reservedE7 => some 0xE7
  | .reservedEB => some 0xEB
  | .reservedEF => some 0xEF
  | .reservedF2 => some 0xF2
  | .reservedF3 => some 0xF3
  | .reservedF4 => some 0xF4
  | .reservedF7 => some 0xF7
  | .reservedFA => some 0xFA
  | .reservedFB => some 0xFB
  | .reservedFC => some 0xFC
  | .reservedFF => some 0xFF
  | _ => none

/-! ### Addressing modes read off memory (R203 to R211) -/

/-- The pointer held in page 0 at `b` (R210, R211). -/
def State.zpWord (s : State) (b : Byte) : Word := mkWord (s.peek (zext16 (b + 1))) (s.peek (zext16 b))

/-- The effective address of an operand as the rules give it, from the registers and memory of one state. -/
def State.ea (s : State) (m : Operand) : Word :=
  match m with
  | .zp b => zext16 b
  | .zpx b => zext16 (b + s.cpu.x)
  | .zpy b => zext16 (b + s.cpu.y)
  | .abs w => w
  | .absx w => w + zext16 s.cpu.x
  | .absy w => w + zext16 s.cpu.y
  | .indx b => s.zpWord (b + s.cpu.x)
  | .indy b => s.zpWord b + zext16 s.cpu.y

/-- `EAu` and the low-byte carry decide the extra cycle of an indexed mode (R207): always for Write and RMW, else only when
a page is crossed. -/
def extraCycle (always : Bool) (base : Word) (index : Byte) : List Word :=
  if always || decide (256 ≤ base.toNat % 256 + index.toNat) then [mkWord (hiByte base) (loByte base + index)] else []

/-- The addresses of the read cycles between the operand bytes and the access at the effective address. -/
def State.modeCycles (s : State) (always : Bool) (m : Operand) : List Word :=
  match m with
  | .zp _ => []
  | .zpx b => [zext16 b]
  | .zpy b => [zext16 b]
  | .abs _ => []
  | .absx w => extraCycle always w s.cpu.x
  | .absy w => extraCycle always w s.cpu.y
  | .indx b => [zext16 b, zext16 (b + s.cpu.x), zext16 (b + s.cpu.x + 1)]
  | .indy b => [zext16 b, zext16 (b + 1)] ++ extraCycle always (s.zpWord b) s.cpu.y

/-- Read cycles as the environment sees them (R25). -/
def State.readsAt (s : State) (addrs : List Word) : List BusCycle := addrs.map fun a => ⟨a, s.peek a, true⟩

/-! ### Decimal digits (R323, R324) -/

/-- Both digits of a packed-BCD byte are decimal. -/
def isBcd (v : Byte) : Prop := v.toNat / 16 < 10 ∧ v.toNat % 16 < 10

/-- The number a packed-BCD byte stands for. -/
def bcdValue (v : Byte) : Nat := v.toNat / 16 * 10 + v.toNat % 16

/-! ### Device accesses -/

/-- After an access of VIA `id` at register `r` with byte `v`: that VIA is `w`, the bus shows the access, and nothing else
has changed. -/
def viaAccessed (id : ViaId) (r : Word) (v : Byte) (read : Bool) (w : Via) (s : State) : State :=
  (s.setVia id w).latch (regAddr (viaBase s.cfg id) 15 r) v read

/-- After an access of the FDC at register `r`. -/
def fdcAccessed (r : Word) (v : Byte) (read : Bool) (f : Fdc) (s : State) : State :=
  ({ s with fdc := f } : State).latch (regAddr s.cfg.fdcBase 3 r) v read

/-- After a host access of the Tube at register `r`. -/
def tubeAccessed (r : Word) (v : Byte) (read : Bool) (t : Tube) (s : State) : State :=
  ({ s with tube := t } : State).latch (regAddr s.cfg.tubeBase 7 r) v read

/-- The flags an access of a port's data register leaves: C1's is cleared, C2's unless its mode is an independent-interrupt
mode (R406). -/
def flagsAfterAccess (x : PortSel) (mode : BitVec 3) (ifr : BitVec 7) (j : Nat) : Bool :=
  ifr.getLsbD j && !(j == c1Bit x) && !(j == c2Bit x && mode != 1 && mode != 3)

/-- The trailing edge of the access cycle, then `n` whole cycles without an access (R401). -/
def Via.afterEdges : Nat → Via → Via
  | 0, v => v.trailingEdge
  | n + 1, v => (Via.afterEdges n v).leadingEdge.trailingEdge

/-- The state each command starts in (R500 to R511, R520), given whether the disc is protected. -/
def firstState (i : Instr) (isProtected : Bool) : Option FdcState :=
  match i with
  | .fdcCmdRestore _ => some .restoreCheck
  | .fdcCmdSeek _ => some .seekCheck
  | .fdcCmdStep _ => some .stepOnce
  | .fdcCmdStepIn _ => some .stepOnce
  | .fdcCmdStepOut _ => some .stepOnce
  | .fdcCmdReadSector _ => some .typeIISettle
  | .fdcCmdWriteSector _ => some (if isProtected then .finish else .typeIISettle)
  | .fdcCmdReadAddress _ => some .typeIISettle
  | _ => none

/-- The byte of a command. -/
def commandByte (i : Instr) : Option Byte :=
  match i with
  | .fdcCmdRestore v => some v
  | .fdcCmdSeek v => some v
  | .fdcCmdStep v => some v
  | .fdcCmdStepIn v => some v
  | .fdcCmdStepOut v => some v
  | .fdcCmdReadSector v => some v
  | .fdcCmdWriteSector v => some v
  | .fdcCmdReadAddress v => some v
  | _ => none

/-- The bytes waiting in the ring buffer of channel 1, oldest first (R556). -/
def Tube.ring (cfg : Config) (t : Tube) : List Byte :=
  (List.range t.p2h1Count).map fun k => t.ringByte cfg (t.p2h1Count - k)

/-- The bytes waiting in one direction of channel 3, oldest first (R565). -/
def Pair.waiting (p : Pair) : List Byte := [p.b0, p.b1].take p.count

/-! ### The invariant of instruction boundaries -/

/-- Parameters the rules make sense for: no wait of zero length (R483: "n > 0"), a ring buffer that holds something, and the
order of R114. -/
structure Sensible (cfg : Config) : Prop where
  depth : 0 < cfg.tubeDepth
  period : 0 < cfg.fdcIndexPeriodUs
  spinup : 0 < cfg.fdcSpinupPulses
  rnf : 0 < cfg.fdcRnfPulses
  settle : 0 < cfg.fdcSettleUs
  byte : 0 < cfg.fdcByteUs
  order : cfg.agentOrder = {}

/-- One VIA at a boundary: the pins follow the registers and a C2 that is an input the environment (R404), the shadows the
lines (R455), the mask is current (R402), and the SR flag is never set (R36). -/
structure Via.Settled (v : Via) : Prop where
  pinsA : v.a.p = v.a.drive
  pinsB : v.b.p = if bit v.acr 7 then setBit 8 v.b.drive 7 v.t1Pb7 else v.b.drive
  inputA2 : bit v.pcr 3 = false → v.a.c2 = v.a.extC2
  inputB2 : bit v.pcr 7 = false → v.b.c2 = v.b.extC2
  shadowA1 : v.a.oldC1 = v.a.c1
  shadowA2 : v.a.oldC2 = v.a.c2
  shadowB1 : v.b.oldC1 = v.b.c1
  shadowB2 : v.b.oldC2 = v.b.c2
  mask : v.irqMask = v.ier &&& v.ifr
  sr : v.ifr.getLsbD 2 = false

/-- The states whose action `run` performs (R483). -/
def FdcState.acts (q : FdcState) : Bool :=
  match q with
  | .idle => false
  | .wait => false
  | .forceInterrupt => false
  | _ => true

/-- The controller between two accesses: busy exactly while a command is in progress, with the motor on; a wait is never
over and leads to an action (R483); the position lies inside the revolution (R55). -/
structure Fdc.Consistent (cfg : Config) (f : Fdc) : Prop where
  busy : f.busy = (f.state != .idle)
  motor : f.state ≠ .idle → f.motor = true
  known : f.state ≠ .forceInterrupt
  wait : f.state = .wait → 0 < f.waitUs ∧ f.nextState.acts = true
  spinUp : f.state = .spinUp ∨ (f.state = .wait ∧ f.nextState = .spinUp) →
    f.afterSpinup.acts = true ∧ f.afterSpinup ≠ .spinUp
  index : f.indexUs < cfg.fdcIndexPeriodUs
  stopped : f.motor = false → f.indexUs = 0

/-- The Tube between two accesses: the complementarity of R585, the ring buffer's flags (R556), the bounds of the buffers
(R62), and the lines as R580 computes them. -/
structure Tube.Consistent (cfg : Config) (t : Tube) : Prop where
  down1 : t.p1.available = !t.h1.notFull
  down2 : t.p2.available = !t.h2.notFull
  up2 : t.h2.available = !t.p2.notFull
  down4 : t.p4.available = !t.h4.notFull
  up4 : t.h4.available = !t.p4.notFull
  ringAvailable : t.h1.available = decide (0 < t.p2h1Count)
  ringNotFull : t.p1.notFull = decide (t.p2h1Count < cfg.tubeDepth)
  ringSize : t.p2h1.length = cfg.tubeDepth
  ringWr : t.p2h1Wr < cfg.tubeDepth
  ringCount : t.p2h1Count ≤ cfg.tubeDepth
  down3 : t.h2p3.count ≤ 2
  up3 : t.p2h3.count ≤ 2
  hirq : t.hirq = (t.q && t.h4.available)
  pirq : t.pirq = ((t.i && t.p1.available) || (t.j && t.p4.available))
  pnmi : t.pnmi = (t.m && (decide (t.thr ≤ t.h2p3.count) || (cfg.tubeNmiOnP2hEmpty && t.p2h3.count == 0)))

/-- The invariant of instruction boundaries. -/
structure Inv (s : State) : Prop where
  sensible : Sensible s.cfg
  memory : Memory.wf s.mem = true
  boundary : AtBoundary s
  sysVia : s.sysVia.Settled
  usrVia : s.usrVia.Settled
  sysId : s.sysVia.id = .system
  usrId : s.usrVia.id = .user
  fdc : s.fdc.Consistent s.cfg
  tube : s.tube.Consistent s.cfg
  irq : s.cpu.irqLine = s.irqSources
  nmi : s.cpu.nmiLine = s.nmiSources

end Sys2Proof.Machine
end

