-- ==== Sys2Proof/Certificates/Slice0/Obligations.lean ====
section
/-! DEFINITION. The statements for the provers. Each docstring says which rules of the spec it formalises. A statement whose
rules the spec marks as its own decision or as general knowledge has basis 'derived'; what the model chose beyond the spec is
named by its log entry. -/

open Sys2Proof Sys2Proof.Machine

/-! ### The CPU: classes of instructions -/

/-- O1. For every Read-class instruction with a memory operand (the 63 constructors of readForm) and every state, exec
answers a next state: the registers are those the operation's rule gives for the operand byte, the byte is memory's
at the effective address when that address is plain, every byte of memory is unchanged, and the world is the one the
operand's cycles leave. For every immediate instruction (the 11 constructors of immForm) the same with the operand
byte, and with no further bus cycle and the world unchanged. CPX and CPY (R296, R297) are among them. Plain memory
is what the model's address decode leaves to RAM and ROM (log entry 9). Rules: R202, R214, R250, R251, R252, R290,
R291, R292, R293, R294, R295, R298. -/
def Obligations.ReadClass : Prop :=
  (∀ (i : Instr) (k : ReadKind) (m : Operand) (s : State), readForm i = some (k, m) →
    ∃ t, exec i s = .next t ∧
      t.regs = k.effect (readOperand m s).1 s.regs ∧
      (Plain s.cfg (effAddr false m s).1 → (readOperand m s).1 = s.peek (effAddr false m s).1) ∧
      (∀ b, t.peek b = s.peek b) ∧
      t.world = (readOperand m s).2.world ∧ AtBoundary t) ∧
  (∀ (i : Instr) (k : ReadKind) (v : Byte) (s : State), immForm i = some (k, v) →
    ∃ t, exec i s = .next t ∧ t.regs = k.effect v s.regs ∧ (∀ b, t.peek b = s.peek b) ∧
      t.world = s.world ∧ t.bus = s.bus ∧ AtBoundary t)

/-- O2. For every store (the 13 constructors of storeForm) in a state with canonical memory: unless the write is a Read
Track or Write Track byte to an idle FDC, exec answers a next state: no register and no flag changes, the last bus
cycle writes the register to the effective address, RAM holds the byte there, every other byte of memory is
unchanged, and the world is the one the write cycle leaves (an idle cycle's, over plain memory). In the excepted
case exec refuses under the command's name (R521, R522). Plain memory is what the model's address decode leaves to
RAM and ROM (log entry 9). Rules: R215, R253, R254, R255. -/
def Obligations.WriteClass : Prop :=
  ∀ (i : Instr) (k : StoreKind) (m : Operand) (s : State), storeForm i = some (k, m) → Memory.wf s.mem = true →
    (Accepts s.cfg (effAddr true m s).1 (k.value s.regs) = true ∨ (effAddr true m s).2.beginCycle.fdc.busy = true →
      ∃ t u, exec i s = .next t ∧ t.regs = s.regs ∧
        (∀ b, t.peek b = stored s.cfg (effAddr true m s).1 (k.value s.regs) s.peek b) ∧
        t.bus = (effAddr true m s).2.bus ++ [⟨(effAddr true m s).1, k.value s.regs, false⟩] ∧
        writeCycle (effAddr true m s).1 (k.value s.regs) (effAddr true m s).2 = .next u ∧ t.world = u.world ∧
        (Plain s.cfg (effAddr true m s).1 → t.world = (effAddr true m s).2.idleCycle.world) ∧ AtBoundary t) ∧
    (Accepts s.cfg (effAddr true m s).1 (k.value s.regs) = false → (effAddr true m s).2.beginCycle.fdc.busy = false →
      exec i s = .refused (if (k.value s.regs).toNat < 0xF0 then .fdcReadTrack (k.value s.regs)
        else .fdcWriteTrack (k.value s.regs)))

/-- O3. For every RMW instruction with a memory operand (the 24 constructors of rmwForm) in a state with canonical
memory whose two writes are not refused FDC commands, exec answers a next state: only the flags of the operation
change among the registers, the bus shows the unmodified byte and then the result written to the effective address,
RAM holds the result there, every other byte of memory is unchanged, and over plain memory the world has passed
three idle cycles after the operand's. Rules: R216, R299, R300, R305, R306, R307, R308. -/
def Obligations.RmwClass : Prop :=
  ∀ (i : Instr) (k : RmwKind) (m : Operand) (s : State), rmwForm i = some (k, m) → Memory.wf s.mem = true →
    let ea := (effAddr true m s).1
    let r := readCycle ea (effAddr true m s).2
    let q := k.result r.1 s.cpu.p
    Accepts s.cfg ea r.1 = true → Accepts s.cfg ea q.r = true →
    ∃ t, exec i s = .next t ∧ t.regs = { s.regs with p := q.p } ∧
      (Plain s.cfg ea → r.1 = s.peek ea) ∧
      (∀ b, t.peek b = stored s.cfg ea q.r s.peek b) ∧
      t.bus = r.2.bus ++ [⟨ea, r.1, false⟩, ⟨ea, q.r, false⟩] ∧
      (Plain s.cfg ea → t.world = (State.idleCycles 3 (effAddr true m s).2).world) ∧ AtBoundary t

/-- O4. For TAX, TAY, TXA, TYA, TSX, TXS, INX, INY, DEX, DEY, CLC, SEC, CLI, SEI, CLD, SED, CLV and NOP and every state,
exec answers a next state after one discarded read at PC, with the registers impliedForm gives and every byte of
memory unchanged. For ASL A, LSR A, ROL A and ROR A the same with A and the flags those of the operation. Rules:
R200, R201, R256, R257, R258, R259, R260, R261, R301, R302, R366, R372. -/
def Obligations.ImpliedAndAccumulator : Prop :=
  ∀ (i : Instr) (f : Regs → Regs) (s : State),
    (impliedForm i = some f ∨
      ∃ k, accForm i = some k ∧ f = fun r => { r with a := (k.result r.a r.p).r, p := (k.result r.a r.p).p }) →
    ∃ t, exec i s = .next t ∧ t.regs = f s.regs ∧ (∀ b, t.peek b = s.peek b) ∧
      t.world = (discardCycle s.cpu.pc s).world ∧
      t.bus = s.bus ++ [⟨s.cpu.pc, (readCycle s.cpu.pc s).1, true⟩] ∧ AtBoundary t

/-- O5. In every state with canonical memory whose push is not a refused FDC command, PHA stores A and PHP stores
PByte(1) at STACK_PAGE + S and S becomes S - 1; no other register, no flag and no other byte of memory changes; over
plain memory the world has passed two idle cycles. Rules: R262, R263, R10. -/
def Obligations.Pushes : Prop :=
  ∀ s : State, Memory.wf s.mem = true →
    (Accepts s.cfg (stackAt s.cfg s.cpu.s) s.cpu.a = true →
      ∃ t, exec .pha s = .next t ∧ t.regs = { s.regs with s := s.cpu.s - 1 } ∧
        (∀ b, t.peek b = stored s.cfg (stackAt s.cfg s.cpu.s) s.cpu.a s.peek b) ∧
        (Plain s.cfg s.cpu.pc → Plain s.cfg (stackAt s.cfg s.cpu.s) → t.world = (State.idleCycles 2 s).world) ∧
        AtBoundary t) ∧
    (Accepts s.cfg (stackAt s.cfg s.cpu.s) (s.cpu.p.toByte true) = true →
      ∃ t, exec .php s = .next t ∧ t.regs = { s.regs with s := s.cpu.s - 1 } ∧
        (∀ b, t.peek b = stored s.cfg (stackAt s.cfg s.cpu.s) (s.cpu.p.toByte true) s.peek b) ∧
        (Plain s.cfg s.cpu.pc → Plain s.cfg (stackAt s.cfg s.cpu.s) → t.world = (State.idleCycles 2 s).world) ∧
        AtBoundary t)

/-- O6. In every state PLA and PLP answer a next state: S becomes S + 1, PLA writes the byte read there to A with N and
Z, PLP writes its six flag bits; the byte is memory's at the new stack address when that address is plain; no byte
of memory and no other register changes; over plain memory the world has passed three idle cycles. Rules: R264,
R265, R10. -/
def Obligations.Pulls : Prop :=
  ∀ s : State,
    (∃ t v, exec .pla s = .next t ∧
      t.regs = { s.regs with s := s.cpu.s + 1, a := v, p := s.cpu.p.setNZ v } ∧
      v = (pullByte (impliedCycle s)).1 ∧
      (Plain s.cfg (stackAt s.cfg (s.cpu.s + 1)) → v = s.peek (stackAt s.cfg (s.cpu.s + 1))) ∧
      (Plain s.cfg s.cpu.pc → Plain s.cfg (stackAt s.cfg s.cpu.s) → Plain s.cfg (stackAt s.cfg (s.cpu.s + 1)) →
        t.world = (State.idleCycles 3 s).world) ∧
      (∀ b, t.peek b = s.peek b) ∧ AtBoundary t) ∧
    (∃ t v, exec .plp s = .next t ∧
      t.regs = { s.regs with s := s.cpu.s + 1, p := Flags.ofByte v } ∧
      v = (pullByte (impliedCycle s)).1 ∧
      (Plain s.cfg (stackAt s.cfg (s.cpu.s + 1)) → v = s.peek (stackAt s.cfg (s.cpu.s + 1))) ∧
      (Plain s.cfg s.cpu.pc → Plain s.cfg (stackAt s.cfg s.cpu.s) → Plain s.cfg (stackAt s.cfg (s.cpu.s + 1)) →
        t.world = (State.idleCycles 3 s).world) ∧
      (∀ b, t.peek b = s.peek b) ∧ AtBoundary t)

/-! ### The CPU: control flow -/

/-- O7. In every state JMP abs answers a next state with PC at the operand, and JMP (ind) with PC made of the byte read
at the pointer and the byte read at the pointer plus one without a carry into its page; no other register and no
byte of memory changes. Rules: R350, R351. -/
def Obligations.Jumps : Prop :=
  ∀ (w : Word) (s : State),
    (∃ t, exec (.jmpAbs w) s = .next t ∧ t.regs = { s.regs with pc := w } ∧ (∀ b, t.peek b = s.peek b) ∧
      t.world = s.world ∧ t.bus = s.bus ∧ AtBoundary t) ∧
    (∃ t lo hi, exec (.jmpInd w) s = .next t ∧ t.regs = { s.regs with pc := mkWord hi lo } ∧
      (Plain s.cfg w → lo = s.peek w) ∧
      (Plain s.cfg (mkWord (hiByte w) (loByte w + 1)) → hi = s.peek (mkWord (hiByte w) (loByte w + 1))) ∧
      t.bus = s.bus ++ [⟨w, lo, true⟩, ⟨mkWord (hiByte w) (loByte w + 1), hi, true⟩] ∧
      (Plain s.cfg w → Plain s.cfg (mkWord (hiByte w) (loByte w + 1)) → t.world = (State.idleCycles 2 s).world) ∧
      (∀ b, t.peek b = s.peek b) ∧ AtBoundary t)

/-- O8. In every state with canonical memory whose two pushes are not refused FDC commands, JSR w (PC then stands at its
last byte) answers a next state: PCH at STACK_PAGE + S and PCL at STACK_PAGE + S - 1, S less 2, and PC made of w's
low byte and of the high byte read at PC after the pushes; no other register, no flag and no other byte of memory
changes. So when that last byte lies in plain memory, holds w's high byte and is in neither stack byte in RAM, PC
becomes w. That the high half of w is its encoding only, the byte itself being read in cycle 6, is the model's
reading of the order of R352 (log entry 18). Rules: R352, R10. -/
def Obligations.JsrCalls : Prop :=
  ∀ (w : Word) (s : State), Memory.wf s.mem = true →
    Accepts s.cfg (stackAt s.cfg s.cpu.s) (hiByte s.cpu.pc) = true →
    Accepts s.cfg (stackAt s.cfg (s.cpu.s - 1)) (loByte s.cpu.pc) = true →
    ∃ t hi, exec (.jsrAbs w) s = .next t ∧
      t.regs = { s.regs with s := s.cpu.s - 2, pc := mkWord hi (loByte w) } ∧
      (∀ b, t.peek b = stored s.cfg (stackAt s.cfg (s.cpu.s - 1)) (loByte s.cpu.pc)
        (stored s.cfg (stackAt s.cfg s.cpu.s) (hiByte s.cpu.pc) s.peek) b) ∧
      (Plain s.cfg s.cpu.pc → hi = t.peek s.cpu.pc) ∧
      (Plain s.cfg s.cpu.pc → s.peek s.cpu.pc = hiByte w →
        (target s.cfg s.cpu.pc = .ram → s.cpu.pc ≠ stackAt s.cfg s.cpu.s ∧ s.cpu.pc ≠ stackAt s.cfg (s.cpu.s - 1)) →
        t.cpu.pc = w) ∧
      (Plain s.cfg s.cpu.pc → Plain s.cfg (stackAt s.cfg s.cpu.s) → Plain s.cfg (stackAt s.cfg (s.cpu.s - 1)) →
        t.world = (State.idleCycles 4 s).world) ∧ AtBoundary t

/-- O9. In every state RTS answers a next state with PC one past the word pulled (low byte at S + 1, high byte at S +
2), S two more, and no other register and no byte of memory changed. Rules: R353, R10. -/
def Obligations.RtsReturns : Prop :=
  ∀ s : State, ∃ t lo hi, exec .rts s = .next t ∧
    t.regs = { s.regs with s := s.cpu.s + 2, pc := mkWord hi lo + 1 } ∧
    (Plain s.cfg (stackAt s.cfg (s.cpu.s + 1)) → lo = s.peek (stackAt s.cfg (s.cpu.s + 1))) ∧
    (Plain s.cfg (stackAt s.cfg (s.cpu.s + 2)) → hi = s.peek (stackAt s.cfg (s.cpu.s + 2))) ∧
    (Plain s.cfg s.cpu.pc → (∀ k : Fin 3, Plain s.cfg (stackAt s.cfg (s.cpu.s + BitVec.ofNat 8 k.val))) →
      Plain s.cfg (mkWord hi lo) → t.world = (State.idleCycles 5 s).world) ∧
    (∀ b, t.peek b = s.peek b) ∧ AtBoundary t

/-- O10. When a JSR has completed with its two stack bytes in RAM, an RTS in any later state that has the JSR's stack
pointer and the same two stack bytes continues at the address after the JSR's last byte with the stack pointer the
JSR started from. Rules: R352, R353. -/
def Obligations.JsrThenRts : Prop :=
  ∀ (w : Word) (s t u : State), Memory.wf s.mem = true →
    target s.cfg (stackAt s.cfg s.cpu.s) = .ram → target s.cfg (stackAt s.cfg (s.cpu.s - 1)) = .ram →
    exec (.jsrAbs w) s = .next t →
    u.cfg = s.cfg → u.cpu.s = t.cpu.s →
    u.peek (stackAt s.cfg s.cpu.s) = t.peek (stackAt s.cfg s.cpu.s) →
    u.peek (stackAt s.cfg (s.cpu.s - 1)) = t.peek (stackAt s.cfg (s.cpu.s - 1)) →
    ∃ v, exec .rts u = .next v ∧ v.cpu.pc = s.cpu.pc + 1 ∧ v.cpu.s = s.cpu.s

/-- O11. For each of the eight branches and every state (PC is behind the branch): when its condition is false exec
answers the same state at its boundary; when true it answers a next state whose PC is PC plus the sign-extended
offset modulo 2^16, after one read at PC, and a second at the old page with the target's low byte exactly when the
page changes; no other register, no flag and no byte of memory changes. Rules: R357, R358, R359, R360, R361, R362,
R363, R364, R365, R212. -/
def Obligations.Branches : Prop :=
  ∀ (i : Instr) (cond : Flags → Bool) (off : Byte) (s : State), branchForm i = some (cond, off) →
    (cond s.cpu.p = false → exec i s = .next s.boundary) ∧
    (cond s.cpu.p = true →
      ∃ t, exec i s = .next t ∧
        t.regs = { s.regs with pc := BitVec.ofInt 16 (s.cpu.pc.toNat + off.toInt) } ∧
        (∀ b, t.peek b = s.peek b) ∧
        t.bus.map BusCycle.addr = s.bus.map BusCycle.addr ++
          (if hiByte t.cpu.pc = hiByte s.cpu.pc then [s.cpu.pc]
            else [s.cpu.pc, mkWord (hiByte s.cpu.pc) (loByte t.cpu.pc)]) ∧
        (Plain s.cfg s.cpu.pc → Plain s.cfg (mkWord (hiByte s.cpu.pc) (loByte t.cpu.pc)) →
          t.world = (State.idleCycles (if hiByte t.cpu.pc = hiByte s.cpu.pc then 1 else 2) s).world) ∧ AtBoundary t)

/-! ### The CPU: addressing modes and arithmetic -/

/-- O12. For every memory operand and state in which the addresses its mode reads are plain memory: the effective
address is the one the mode's rule gives from the registers and memory, the bus shows exactly the mode's discarded
and pointer reads with their bytes (the cycle at EAu always for Write and RMW, only on a page crossing for Read),
registers and memory are unchanged, and the world has passed that many idle cycles. Rules: R203, R204, R205, R206,
R207, R208, R210, R211. -/
def Obligations.AddressingModes : Prop :=
  ∀ (always : Bool) (m : Operand) (s : State), (∀ a ∈ s.modeCycles always m, Plain s.cfg a) →
    (effAddr always m s).1 = s.ea m ∧
    (effAddr always m s).2.bus = s.bus ++ s.readsAt (s.modeCycles always m) ∧
    (effAddr always m s).2.regs = s.regs ∧
    (∀ b, (effAddr always m s).2.peek b = s.peek b) ∧
    (effAddr always m s).2.world = (State.idleCycles (s.modeCycles always m).length s).world

/-- O13. For all operands and carries add8 gives the sum modulo 256, the carry out of nine bits, and an overflow flag
equal to the formula of R321 and to the signed sum being outside -128..127; sub8 is add8 with the one's complement,
its result is a - b - (1 - cin) modulo 256, its carry is 1 exactly when a >= b + (1 - cin), and its overflow exactly
when the signed difference is outside -128..127. Rules: R321, R322. -/
def Obligations.BinaryArithmetic : Prop :=
  ∀ (a b : Byte) (cin : Bool),
    (add8 a b cin).sum.toNat = (a.toNat + b.toNat + cin.toNat) % 256 ∧
    ((add8 a b cin).carry = true ↔ 256 ≤ a.toNat + b.toNat + cin.toNat) ∧
    (add8 a b cin).overflow = bit (~~~(a ^^^ b) &&& (a ^^^ (add8 a b cin).sum)) 7 ∧
    ((add8 a b cin).overflow = true ↔
      (a.toInt + b.toInt + (cin.toNat : Int) < -128 ∨ 127 < a.toInt + b.toInt + (cin.toNat : Int))) ∧
    sub8 a b cin = add8 a (b ^^^ 0xFF) cin ∧
    (sub8 a b cin).sum = BitVec.ofInt 8 ((a.toNat : Int) - (b.toNat : Int) - (1 - (cin.toNat : Int))) ∧
    ((sub8 a b cin).carry = true ↔ b.toNat + (1 - cin.toNat) ≤ a.toNat) ∧
    ((sub8 a b cin).overflow = true ↔
      (a.toInt - b.toInt - (1 - (cin.toNat : Int)) < -128 ∨ 127 < a.toInt - b.toInt - (1 - (cin.toNat : Int))))

/-- O14. With D = 0 ADC and SBC leave the sum, carry and overflow of add8 and sub8 with N and Z of the sum; with D = 1
and valid BCD operands A is a valid BCD byte for the sum or difference modulo 100 with C the decimal carry or no-
borrow; for all operands with D = 1, valid or not, ADC's N and V are taken from R323's intermediate t before the
high digit's correction, A and C from t after it, and SBC's A is R324's formula; ADC's Z is that of the binary sum
and SBC's four flags are those of the binary subtraction for all operands and both modes; D and I never change.
Rules: R290, R291, R323, R324. -/
def Obligations.AdcSbcModes : Prop :=
  ∀ (a m : Byte) (p : Flags),
    (p.d = false →
      (adcResult a m p).a = (add8 a m p.c).sum ∧
      (adcResult a m p).p = { p with
        n := bit (add8 a m p.c).sum 7, z := decide ((add8 a m p.c).sum = 0)
        c := (add8 a m p.c).carry, v := (add8 a m p.c).overflow } ∧
      (sbcResult a m p).a = (sub8 a m p.c).sum) ∧
    (p.d = true → isBcd a → isBcd m →
      isBcd (adcResult a m p).a ∧
      bcdValue (adcResult a m p).a = (bcdValue a + bcdValue m + p.c.toNat) % 100 ∧
      ((adcResult a m p).p.c = true ↔ 100 ≤ bcdValue a + bcdValue m + p.c.toNat) ∧
      isBcd (sbcResult a m p).a ∧
      bcdValue (sbcResult a m p).a = (bcdValue a + 100 - bcdValue m - (1 - p.c.toNat)) % 100 ∧
      ((sbcResult a m p).p.c = true ↔ bcdValue m + (1 - p.c.toNat) ≤ bcdValue a)) ∧
    (p.d = true →
      let al := a.toNat % 16 + m.toNat % 16 + p.c.toNat
      let t := a.toNat / 16 * 16 + m.toNat / 16 * 16 + if 10 ≤ al then (al + 6) % 16 + 16 else al
      let u := if 0xA0 ≤ t then t + 0x60 else t
      let bl : Int := (a.toNat : Int) % 16 - (m.toNat : Int) % 16 + (p.c.toNat : Int) - 1
      let d : Int := (a.toNat : Int) / 16 * 16 - (m.toNat : Int) / 16 * 16 + if bl < 0 then (bl - 6) % 16 - 16 else bl
      (adcResult a m p).p.n = decide (t / 128 % 2 = 1) ∧
      (adcResult a m p).p.v = (bit a 7 == bit m 7 && bit a 7 != decide (t / 128 % 2 = 1)) ∧
      (adcResult a m p).p.c = decide (256 ≤ u) ∧ (adcResult a m p).a.toNat = u % 256 ∧
      ((sbcResult a m p).a.toNat : Int) = (if d < 0 then d - 0x60 else d) % 256) ∧
    (adcResult a m p).p.z = decide ((a.toNat + m.toNat + p.c.toNat) % 256 = 0) ∧
    (sbcResult a m p).p = { p with
      n := bit (sub8 a m p.c).sum 7, z := decide ((sub8 a m p.c).sum = 0)
      c := (sub8 a m p.c).carry, v := (sub8 a m p.c).overflow } ∧
    (adcResult a m p).p.d = p.d ∧ (adcResult a m p).p.i = p.i

/-- O15. For all bytes and flags a compare writes C exactly when the register is not less than the operand (unsigned), Z
exactly when they are equal, N as bit 7 of the difference, and nothing else; BIT writes Z as whether no bit is set
in both, N and V as bits 7 and 6 of the memory byte, and nothing else. Rules: R295, R296, R297, R298. -/
def Obligations.CompareAndBit : Prop :=
  ∀ (r m : Byte) (p : Flags),
    p.compare r m = { p with
      c := decide (m.toNat ≤ r.toNat), z := decide (r = m)
      n := decide (128 ≤ (r.toNat + 256 - m.toNat) % 256) } ∧
    p.bitTest r m = { p with
      z := decide (∀ k : Fin 8, ¬ (r.getLsbD k = true ∧ m.getLsbD k = true))
      n := decide (128 ≤ m.toNat), v := decide (64 ≤ m.toNat % 128) }

/-- O16. For every byte and flags: ASL, LSR, ROL and ROR move each bit one place, feed 0 or the carry in and the lost
bit to C; INC and DEC count modulo 256 and leave C; all set N and Z of the result and leave V, D and I. Rules: R305,
R306, R307, R308, R299, R300. -/
def Obligations.ShiftsCountsBits : Prop :=
  ∀ (k : RmwKind) (m : Byte) (p : Flags),
    (∀ j : Fin 8, (k.result m p).r.getLsbD j =
      match k with
      | .asl => decide (j.val ≠ 0) && m.getLsbD (j.val - 1)
      | .rol => if j.val = 0 then p.c else m.getLsbD (j.val - 1)
      | .lsr => decide (j.val ≠ 7) && m.getLsbD (j.val + 1)
      | .ror => if j.val = 7 then p.c else m.getLsbD (j.val + 1)
      | .inc => (BitVec.ofNat 8 (m.toNat + 1)).getLsbD j
      | .dec => (BitVec.ofNat 8 (m.toNat + 255)).getLsbD j) ∧
    (k.result m p).p = { p with
      n := decide (128 ≤ (k.result m p).r.toNat), z := decide ((k.result m p).r.toNat = 0)
      c := match k with
        | .asl => decide (128 ≤ m.toNat)
        | .rol => decide (128 ≤ m.toNat)
        | .lsr => decide (m.toNat % 2 = 1)
        | .ror => decide (m.toNat % 2 = 1)
        | .inc => p.c
        | .dec => p.c }

/-- O17. For all flags and break markers the pushed byte has N, V, 1, B, D, I, Z, C in bits 7 to 0, and pulling it gives
the same flags whatever bits 5 and 4 are. Rules: R10, R23, R265. -/
def Obligations.FlagsByte : Prop :=
  ∀ (p : Flags) (b : Bool),
    bit (p.toByte b) 7 = p.n ∧ bit (p.toByte b) 6 = p.v ∧ bit (p.toByte b) 5 = true ∧ bit (p.toByte b) 4 = b ∧
    bit (p.toByte b) 3 = p.d ∧ bit (p.toByte b) 2 = p.i ∧ bit (p.toByte b) 1 = p.z ∧ bit (p.toByte b) 0 = p.c ∧
    ∀ x : Byte, Flags.ofByte ((p.toByte b &&& 0xCF) ||| (x &&& 0x30)) = p

/-! ### Interrupts, BRK, RTI and reset -/

/-- O18. When no reset and no NMI waits, irq_line is 1 and I is 0, and the three pushes are not refused FDC commands,
step answers the state after IrqSeq: the seven bus cycles of R606, PCH, PCL and PByte(0) stored from the stack
pointer down, S less 3, I set, IR $00, PC from VEC_IRQ; A, X, Y, D and the other flags and every other byte of
memory unchanged; over plain memory the world has passed seven idle cycles. That one step is the whole sequence is
the model's reading of R26 (log entry 6). Rules: R606, R604, R620, R192. -/
def Obligations.IrqEntry : Prop :=
  ∀ s : State, s.cpu.resetReq = false → s.cpu.nmiPending = false → s.cpu.irqLine = true → s.cpu.p.i = false →
    Memory.wf s.mem = true →
    Accepts s.cfg (stackAt s.cfg s.cpu.s) (hiByte s.cpu.pc) = true →
    Accepts s.cfg (stackAt s.cfg (s.cpu.s - 1)) (loByte s.cpu.pc) = true →
    Accepts s.cfg (stackAt s.cfg (s.cpu.s - 2)) (s.cpu.p.toByte false) = true →
    ∃ t d1 d2 lo hi, step s = .next t ∧
      t.regs = { s.regs with
        s := s.cpu.s - 3, pc := mkWord hi lo, p := { s.cpu.p with i := true }, ir := 0 } ∧
      (∀ b, t.peek b = frame s.cfg s.cpu.s s.cpu.pc (s.cpu.p.toByte false) s.peek b) ∧
      t.bus = [⟨s.cpu.pc, d1, true⟩, ⟨s.cpu.pc, d2, true⟩, ⟨stackAt s.cfg s.cpu.s, hiByte s.cpu.pc, false⟩,
        ⟨stackAt s.cfg (s.cpu.s - 1), loByte s.cpu.pc, false⟩,
        ⟨stackAt s.cfg (s.cpu.s - 2), s.cpu.p.toByte false, false⟩, ⟨s.cfg.vecIrq, lo, true⟩,
        ⟨s.cfg.vecIrq + 1, hi, true⟩] ∧
      (Plain s.cfg s.cfg.vecIrq → lo = t.peek s.cfg.vecIrq) ∧
      (Plain s.cfg (s.cfg.vecIrq + 1) → hi = t.peek (s.cfg.vecIrq + 1)) ∧
      (Plain s.cfg s.cpu.pc → Plain s.cfg (stackAt s.cfg s.cpu.s) → Plain s.cfg (stackAt s.cfg (s.cpu.s - 1)) →
        Plain s.cfg (stackAt s.cfg (s.cpu.s - 2)) → Plain s.cfg s.cfg.vecIrq → Plain s.cfg (s.cfg.vecIrq + 1) →
        t.world = (State.idleCycles 7 (clearRecords s)).world) ∧ AtBoundary t

/-- O19. When no reset waits and nmi_pending is set, and the three pushes are not refused FDC commands, step answers the
state after NmiSeq, whatever irq_line and I are: the seven cycles, the pushed PC and PByte(0), S less 3, I set, IR
$00, PC from VEC_NMI, everything else in the registers and memory unchanged; over plain memory the world has passed
seven idle cycles from one with nmi_pending cleared. That one step is the whole sequence is the model's reading of
R26 (log entry 6). Rules: R607, R603, R620, R621. -/
def Obligations.NmiEntry : Prop :=
  ∀ s : State, s.cpu.resetReq = false → s.cpu.nmiPending = true →
    Memory.wf s.mem = true →
    Accepts s.cfg (stackAt s.cfg s.cpu.s) (hiByte s.cpu.pc) = true →
    Accepts s.cfg (stackAt s.cfg (s.cpu.s - 1)) (loByte s.cpu.pc) = true →
    Accepts s.cfg (stackAt s.cfg (s.cpu.s - 2)) (s.cpu.p.toByte false) = true →
    ∃ t d1 d2 lo hi, step s = .next t ∧
      t.regs = { s.regs with
        s := s.cpu.s - 3, pc := mkWord hi lo, p := { s.cpu.p with i := true }, ir := 0 } ∧
      (∀ b, t.peek b = frame s.cfg s.cpu.s s.cpu.pc (s.cpu.p.toByte false) s.peek b) ∧
      t.bus = [⟨s.cpu.pc, d1, true⟩, ⟨s.cpu.pc, d2, true⟩, ⟨stackAt s.cfg s.cpu.s, hiByte s.cpu.pc, false⟩,
        ⟨stackAt s.cfg (s.cpu.s - 1), loByte s.cpu.pc, false⟩,
        ⟨stackAt s.cfg (s.cpu.s - 2), s.cpu.p.toByte false, false⟩, ⟨s.cfg.vecNmi, lo, true⟩,
        ⟨s.cfg.vecNmi + 1, hi, true⟩] ∧
      (Plain s.cfg s.cfg.vecNmi → lo = t.peek s.cfg.vecNmi) ∧
      (Plain s.cfg (s.cfg.vecNmi + 1) → hi = t.peek (s.cfg.vecNmi + 1)) ∧
      (Plain s.cfg s.cpu.pc → Plain s.cfg (stackAt s.cfg s.cpu.s) → Plain s.cfg (stackAt s.cfg (s.cpu.s - 1)) →
        Plain s.cfg (stackAt s.cfg (s.cpu.s - 2)) → Plain s.cfg s.cfg.vecNmi → Plain s.cfg (s.cfg.vecNmi + 1) →
        t.world = (State.idleCycles 7 ((clearRecords s).setCpu { s.cpu with nmiPending := false })).world) ∧ AtBoundary t

/-- O20. When reset_req is set, step answers the state after ResetSeq whatever else waits: seven read cycles (twice PC,
three stack addresses going down, the vector), every byte of memory unchanged, S less 3, I set, IR $00, PC from
VEC_RESET, A, X, Y and the other flags unchanged; over plain memory the world has passed seven idle cycles from one
whose VIAs, FDC and Tube were reset first and whose reset_req and nmi_pending were cleared. That one step is the
whole sequence is the model's reading of R26 (log entry 6). Rules: R608, R650, R620, R28, R653. -/
def Obligations.ResetEntry : Prop :=
  ∀ s : State, s.cpu.resetReq = true →
    ∃ t d1 d2 d3 d4 d5 lo hi, step s = .next t ∧
      t.regs = { s.regs with
        s := s.cpu.s - 3, pc := mkWord hi lo, p := { s.cpu.p with i := true }, ir := 0 } ∧
      (∀ b, t.peek b = s.peek b) ∧
      t.bus = [⟨s.cpu.pc, d1, true⟩, ⟨s.cpu.pc, d2, true⟩, ⟨stackAt s.cfg s.cpu.s, d3, true⟩,
        ⟨stackAt s.cfg (s.cpu.s - 1), d4, true⟩, ⟨stackAt s.cfg (s.cpu.s - 2), d5, true⟩,
        ⟨s.cfg.vecReset, lo, true⟩, ⟨s.cfg.vecReset + 1, hi, true⟩] ∧
      (Plain s.cfg s.cfg.vecReset → lo = s.peek s.cfg.vecReset) ∧
      (Plain s.cfg (s.cfg.vecReset + 1) → hi = s.peek (s.cfg.vecReset + 1)) ∧
      (Plain s.cfg s.cpu.pc → Plain s.cfg (stackAt s.cfg s.cpu.s) → Plain s.cfg (stackAt s.cfg (s.cpu.s - 1)) →
        Plain s.cfg (stackAt s.cfg (s.cpu.s - 2)) → Plain s.cfg s.cfg.vecReset → Plain s.cfg (s.cfg.vecReset + 1) →
        t.world = (State.idleCycles 7 ((clearRecords s).resetDevices.setCpu
          { s.cpu with resetReq := false, nmiPending := false })).world) ∧ AtBoundary t

/-- O21. For every state, after the devices' resets each VIA keeps its identity and has the values of R40 under the
environment's levels (ports, ACR, PCR, IFR, IER, SR and pending flags zero, PB7 high), the FDC has those of R56
(track, sector and data $00), and the Tube those of R66. That the byte kept from the last parasite read, tube.pdata,
is $00 is the model's own (log entry 16). Rules: R40, R56, R66. -/
def Obligations.ResetValues : Prop :=
  ∀ (s : State) (id : ViaId),
    let v := (s.resetDevices).via id
    let l := match id with
      | .system => s.env.sys
      | .user => s.env.usr
    let f := s.resetDevices.fdc
    v.id = (s.via id).id ∧ v.a.or = 0 ∧ v.b.or = 0 ∧ v.a.ddr = 0 ∧ v.b.ddr = 0 ∧ v.a.p = l.extA ∧ v.b.p = l.extB ∧
    v.a.latch = 0 ∧ v.b.latch = 0 ∧ v.a.c1 = l.ca1 ∧ v.a.c2 = l.ca2 ∧ v.b.c1 = l.cb1 ∧ v.b.c2 = l.cb2 ∧
    v.a.ext = l.extA ∧ v.b.ext = l.extB ∧ v.a.extC2 = l.ca2 ∧ v.b.extC2 = l.cb2 ∧
    v.a.oldC1 = l.ca1 ∧ v.a.oldC2 = l.ca2 ∧ v.b.oldC1 = l.cb1 ∧ v.b.oldC2 = l.cb2 ∧
    v.a.pulse = 0 ∧ v.b.pulse = 0 ∧ v.acr = 0 ∧ v.pcr = 0 ∧ v.ifr = 0 ∧ v.ier = 0 ∧ v.sr = 0 ∧
    v.t1Timeout = false ∧ v.t1Pending = false ∧ v.t1Reload = false ∧ v.t2Timeout = false ∧ v.t2Pending = false ∧
    v.t2Reload = false ∧ v.t2Count = false ∧ v.t1Pb7 = true ∧ v.oldPb6 = bit l.extB 6 ∧
    f.state = .idle ∧ f.status = 0 ∧ f.command = 0 ∧ f.track = 0 ∧ f.sector = 0 ∧ f.data = 0 ∧ f.waitUs = 0 ∧
    f.drq = false ∧ f.intrq = false ∧ f.motor = false ∧ f.restoreCount = 0 ∧ f.offset = 0 ∧ f.idlePulses = 0 ∧
    f.indexUs = 0 ∧ f.dir = true ∧ f.statusType1 = true ∧ f.irqOnIndex = false ∧ f.afterSpinup = .idle ∧
    s.resetDevices.tube = { p2h1 := List.replicate s.cfg.tubeDepth 0 }

/-- O22. In every state with canonical memory whose three pushes are not refused FDC commands, BRK (PC stands behind its
opcode) answers a next state: PC + 1 high byte first and PByte(1) stored from the stack pointer down, S less 3, I
set, PC from VEC_IRQ; no other register, no other flag and no other byte of memory changes. Rules: R355, R609, R601. -/
def Obligations.BrkEnters : Prop :=
  ∀ s : State, Memory.wf s.mem = true →
    Accepts s.cfg (stackAt s.cfg s.cpu.s) (hiByte (s.cpu.pc + 1)) = true →
    Accepts s.cfg (stackAt s.cfg (s.cpu.s - 1)) (loByte (s.cpu.pc + 1)) = true →
    Accepts s.cfg (stackAt s.cfg (s.cpu.s - 2)) (s.cpu.p.toByte true) = true →
    ∃ t lo hi, exec .brk s = .next t ∧
      t.regs = { s.regs with s := s.cpu.s - 3, pc := mkWord hi lo, p := { s.cpu.p with i := true } } ∧
      (∀ b, t.peek b = frame s.cfg s.cpu.s (s.cpu.pc + 1) (s.cpu.p.toByte true) s.peek b) ∧
      (Plain s.cfg s.cfg.vecIrq → lo = t.peek s.cfg.vecIrq) ∧
      (Plain s.cfg (s.cfg.vecIrq + 1) → hi = t.peek (s.cfg.vecIrq + 1)) ∧
      (Plain s.cfg s.cpu.pc → (∀ k : Fin 3, Plain s.cfg (stackAt s.cfg (s.cpu.s - BitVec.ofNat 8 k.val))) →
        Plain s.cfg s.cfg.vecIrq → Plain s.cfg (s.cfg.vecIrq + 1) → t.world = (State.idleCycles 6 s).world) ∧
      AtBoundary t

/-- O23. In every state RTI answers a next state: the six flags of the byte at S + 1, PC from the bytes at S + 2 (low)
and S + 3 (high) with nothing added, S three more, no other register and no byte of memory changed. Rules: R354,
R625. -/
def Obligations.RtiReturns : Prop :=
  ∀ s : State, ∃ t f lo hi, exec .rti s = .next t ∧
    t.regs = { s.regs with s := s.cpu.s + 3, pc := mkWord hi lo, p := Flags.ofByte f } ∧
    (Plain s.cfg (stackAt s.cfg (s.cpu.s + 1)) → f = s.peek (stackAt s.cfg (s.cpu.s + 1))) ∧
    (Plain s.cfg (stackAt s.cfg (s.cpu.s + 2)) → lo = s.peek (stackAt s.cfg (s.cpu.s + 2))) ∧
    (Plain s.cfg (stackAt s.cfg (s.cpu.s + 3)) → hi = s.peek (stackAt s.cfg (s.cpu.s + 3))) ∧
    (Plain s.cfg s.cpu.pc → (∀ k : Fin 4, Plain s.cfg (stackAt s.cfg (s.cpu.s + BitVec.ofNat 8 k.val))) →
      t.world = (State.idleCycles 5 s).world) ∧
    (∀ b, t.peek b = s.peek b) ∧ AtBoundary t

/-- O24. When the shared entry of IRQ, NMI and BRK has completed with its three stack bytes in RAM, an RTI in any later
state that has the entry's stack pointer and the same three stack bytes continues at the saved PC with all six flags
and the stack pointer as they were. Rules: R606, R607, R354, R625. -/
def Obligations.RtiRestores : Prop :=
  ∀ (brk : Bool) (vec : Word) (s t u : State), Memory.wf s.mem = true →
    (∀ k : Fin 3, target s.cfg (stackAt s.cfg (s.cpu.s - BitVec.ofNat 8 k.val)) = .ram) →
    enterInterrupt brk vec s = .next t →
    u.cfg = s.cfg → u.cpu.s = s.cpu.s - 3 →
    (∀ k : Fin 3, u.peek (stackAt s.cfg (s.cpu.s - BitVec.ofNat 8 k.val)) =
      frame s.cfg s.cpu.s s.cpu.pc (s.cpu.p.toByte brk) s.peek (stackAt s.cfg (s.cpu.s - BitVec.ofNat 8 k.val))) →
    t.cpu.s = s.cpu.s - 3 ∧
    ∃ v, exec .rti u = .next v ∧ v.cpu.pc = s.cpu.pc ∧ v.cpu.p = s.cpu.p ∧ v.cpu.s = s.cpu.s

/-! ### The step, decoding and encoding -/

/-- O25. When no reset, NMI or unmasked IRQ waits and the bytes at PC (in plain memory) decode to a well-formed
instruction, step is exec of that instruction in a state whose PC is past the bytes decoded, whose IR holds the
opcode, whose bus shows exactly the fetch cycles, whose memory and other registers are unchanged and whose world has
passed one idle cycle per byte. The bytes fetched first are all those decoded, but for JSR the first two: its third
is fetched by its own cycle 6 (R352). That one step is one whole instruction is the model's reading of R26 and R218
(log entry 6). Rules: R193, R194, R213, R218, R352. -/
def Obligations.StepRunsDecoded : Prop :=
  ∀ (s : State) (i : Instr) (rest : List Byte), nextSequence s = .instr → i.WellFormed →
    decodeBytes [s.peek s.cpu.pc, s.peek (s.cpu.pc + 1), s.peek (s.cpu.pc + 2)] = .ok (i, rest) →
    let n := if s.peek s.cpu.pc = 0x20 then 2 else 3 - rest.length
    (∀ k, k < n → Plain s.cfg (s.cpu.pc + BitVec.ofNat 16 k)) →
    ∃ t, step s = exec i t ∧
      t.regs = { s.regs with pc := s.cpu.pc + BitVec.ofNat 16 n, ir := s.peek s.cpu.pc } ∧
      t.mem = s.mem ∧
      t.bus = s.readsAt ((List.range n).map fun k => s.cpu.pc + BitVec.ofNat 16 k) ∧
      t.world = (State.idleCycles n (clearRecords s)).world

/-- O26. A few words of each family, written out from the spec's tables, decode to their instructions: CPU bytes, VIA,
FDC and Tube register accesses and an FDC command byte. Rules: R142, R144, R160, R165, R166, R175. -/
def Obligations.DecodedWords : Prop :=
  decode (.cpu [0xA9, 0x80]) = .ok (.ldaImm 0x80) ∧ decode (.cpu [0x8D, 0x00, 0x02]) = .ok (.staAbs 0x0200) ∧
  decode (.cpu [0x1E, 0x34, 0x12]) = .ok (.aslAbsx 0x1234) ∧ decode (.cpu [0x6C, 0xFF, 0x12]) = .ok (.jmpInd 0x12FF) ∧
  decode (.cpu [0x20, 0x34, 0x12]) = .ok (.jsrAbs 0x1234) ∧ decode (.cpu [0xB1, 0x40]) = .ok (.ldaIndy 0x40) ∧ decode (.cpu [0xD0, 0xFB]) = .ok (.bne 0xFB) ∧
  decode (.cpu [0x00]) = .ok .brk ∧ decode (.cpu [0x02]) = .ok .reserved02 ∧
  decode (.viaRead .user 0xD) = .ok (.viaReadIfr .user) ∧ decode (.viaWrite .system 0x5 0x20) = .ok (.viaWriteT1ch .system 0x20) ∧
  decode (.fdcRead 0) = .ok .fdcReadStatus ∧ decode (.fdcCommand 0x98) = .ok (.fdcCmdReadSector 0x98) ∧
  decode (.tubeRead .host 5) = .ok .tubeHostRead5 ∧ decode (.tubeWrite .parasite 7 0x80) = .ok (.tubeParasiteWrite7 0x80)

/-- O27. For every well-formed instruction, all 339 constructors with every operand at every value: decode (encode i) =
i. Rules: R141, R142, R144, R145, R147, R160, R165, R166, R175. -/
def Obligations.RoundTrip : Prop :=
  ∀ i : Instr, i.WellFormed → decode (encode i) = .ok i

/-- O28. Whenever the CPU's decoder reads an instruction from bytes, the instruction is well-formed and the bytes are
its encoding followed by the bytes left over. Rules: R141, R142, R144, R147. -/
def Obligations.DecodingIsInjective : Prop :=
  ∀ (bytes rest : List Byte) (i : Instr), decodeBytes bytes = .ok (i, rest) →
    i.WellFormed ∧ ∃ used, bytes = used ++ rest ∧ encode i = .cpu used

/-- O29. For each of the 105 reserved opcodes exec refuses in every state with the reason that names the opcode, and the
instruction's encoding is that one byte. Rules: R147, R195. -/
def Obligations.ReservedOpcodesRefused : Prop :=
  ∀ (i : Instr) (op : Byte) (s : State), reservedForm i = some op →
    exec i s = .refused (.reservedOpcode op) ∧ encode i = .cpu [op] ∧ formatOf op = .reserved

/-- O30. In every state step does not fault; if it refuses, the reason is a reserved opcode, or an FDC command byte $E0
to $EF, or one $F0 to $FF, under their own names. That the model has no fault at all is read from the spec's list of
faults (log entry 25). Rules: R600, R195, R521, R522, R530, R472. -/
def Obligations.StopsAreTheSpecs : Prop :=
  ∀ (s : State), (∀ r, step s ≠ .fault r) ∧
    ∀ r, step s = .refused r →
      (∃ op, r = .reservedOpcode op ∧ formatOf op = .reserved) ∨
      (∃ v : Byte, r = .fdcReadTrack v ∧ v.toNat / 16 = 0xE) ∨
      (∃ v : Byte, r = .fdcWriteTrack v ∧ v.toNat / 16 = 0xF)

/-! ### The whole machine -/

/-- O31. If the invariant holds and step answers next, it holds after: memory canonical, the sequencer at a boundary,
both VIAs settled (pins follow registers, a C2 that is an input follows its line, shadows follow lines, the returned
mask is current, the SR flag clear) with their identities, the FDC busy exactly while a command is in progress with
the motor on, the Tube's latches complementary with bounded buffers and lines as R580 computes them, and the CPU's
interrupt lines the OR of their sources. Rules: R65, R585, R404, R402, R455, R483, R613, R580, R556, R39. -/
def Obligations.StepKeepsInv : Prop :=
  ∀ s t : State, Inv s → step s = .next t → Inv t

/-- O32. State.reset satisfies Inv. It rests on values the model chose (log entries 1 to 5) only where the spec gives
none; the invariant constrains none of those. Rules: R28, R40, R56, R66. -/
def Obligations.ResetHasInv : Prop :=
  Inv State.reset

/-- O33. With the order of R114: for a read or a write cycle at a System VIA address the VIA after it is that of the
register access applied after the leading edge and before the trailing edge (a read delivers that access's byte, a
write completes), and the User VIA takes both its edges; the same with the two exchanged. In any order of the
agents, a read cycle changes no CPU register and no byte of memory, a completed write cycle no CPU register and no
byte but the one stored in RAM; and after every read and every completed write cycle irq_line and nmi_line are the
OR of their sources, and nmi_pending is set exactly if it was set before or nmi_line has risen in this cycle. And in
any order of the agents, whatever lists of parasite accesses the cycle's input holds: the Tube takes the first list
before the CPU's access and the second after it, in the list's order, each access the register access it names,
whole, or nothing while the parasite is held in reset; a CPU cycle at a Tube address stands exactly between the two
(a read delivers the byte of the Tube the first list leaves, a write completes on that Tube), any other completed
cycle leaves the Tube to the two lists; the input is then used up, and with no input left the Tube sees the CPU
alone. That the input is a list in the state and its levels land at the start of the cycle is the model's choice
(log entry 7), and so are skipping the accesses of a parasite in reset (log entry 22), tube.pdata (log entry 16) and
an order of agents other than R114's (log entry 17). Rules: R114, R401, R104, R402, R603, R27, R613, R611, R115. -/
def Obligations.CycleOrder : Prop :=
  ∀ (a : Word) (d : Byte) (s : State),
    (s.cfg.agentOrder = {} →
      s.beginCycle.sysVia = (s.takeInput.sysVia.applyLines s.takeInput.env.sys).leadingEdge ∧
      s.beginCycle.usrVia = (s.takeInput.usrVia.applyLines s.takeInput.env.usr).leadingEdge ∧
      (target s.cfg a = .sysVia →
        (readCycle a s).1 = (s.beginCycle.sysVia.regRead s.cfg (viaReg a)).1 ∧
        (readCycle a s).2.sysVia = (s.beginCycle.sysVia.regRead s.cfg (viaReg a)).2.trailingEdge ∧
        (readCycle a s).2.usrVia = s.beginCycle.usrVia.trailingEdge ∧
        ∃ u, writeCycle a d s = .next u ∧
          u.sysVia = (s.beginCycle.sysVia.regWrite s.cfg (viaReg a) d).trailingEdge ∧
          u.usrVia = s.beginCycle.usrVia.trailingEdge) ∧
      (target s.cfg a = .usrVia →
        (readCycle a s).1 = (s.beginCycle.usrVia.regRead s.cfg (viaReg a)).1 ∧
        (readCycle a s).2.usrVia = (s.beginCycle.usrVia.regRead s.cfg (viaReg a)).2.trailingEdge ∧
        (readCycle a s).2.sysVia = s.beginCycle.sysVia.trailingEdge ∧
        ∃ u, writeCycle a d s = .next u ∧
          u.usrVia = (s.beginCycle.usrVia.regWrite s.cfg (viaReg a) d).trailingEdge ∧
          u.sysVia = s.beginCycle.sysVia.trailingEdge)) ∧
    (readCycle a s).2.regs = s.regs ∧ (∀ b, (readCycle a s).2.peek b = s.peek b) ∧
    (∀ u, writeCycle a d s = .next u →
      u.regs = s.regs ∧ ∀ b, (target s.cfg a = .ram → b ≠ a) → u.peek b = s.peek b) ∧
    (∀ q : State, (q = (readCycle a s).2 ∨ writeCycle a d s = .next q) →
      q.cpu.irqLine = (q.sysVia.irq || q.usrVia.irq || q.tube.hirq ||
        (q.cfg.fdcIrqWiring == .irq && (q.fdc.intrq || q.fdc.drq)) || q.env.otherIrq) ∧
      q.cpu.nmiLine = ((q.cfg.fdcIrqWiring == .nmi && (q.fdc.intrq || q.fdc.drq)) || q.env.otherNmi) ∧
      (q.cpu.nmiPending = true ↔ s.cpu.nmiPending = true ∨ (s.cpu.nmiLine = false ∧ q.cpu.nmiLine = true))) ∧
    (∀ before after : List ParasiteAccess,
      (s.script = [] ∧ before = [] ∧ after = [] ∨
        ∃ e, s.script.head? = some e ∧ before = e.parasiteBefore ∧ after = e.parasiteAfter) →
      s.beginCycle.tube = Tube.parasiteRun s.cfg before s.tube ∧
      (target s.cfg a = .tube →
        (readCycle a s).1 = ((Tube.parasiteRun s.cfg before s.tube).hostRead s.cfg (tubeReg a)).1 ∧
        (readCycle a s).2.tube = Tube.parasiteRun s.cfg after
          ((Tube.parasiteRun s.cfg before s.tube).hostRead s.cfg (tubeReg a)).2 ∧
        ∃ u, writeCycle a d s = .next u ∧ u.tube = Tube.parasiteRun s.cfg after
          ((Tube.parasiteRun s.cfg before s.tube).hostWrite s.cfg (tubeReg a) d)) ∧
      ∀ q : State, (q = (readCycle a s).2 ∨ writeCycle a d s = .next q) →
        q.script = s.script.tail ∧
        (target s.cfg a ≠ .tube → q.tube = Tube.parasiteRun s.cfg (before ++ after) s.tube)) ∧
    ∀ (t : Tube) (rest : List ParasiteAccess),
      Tube.parasiteRun s.cfg [] t = t ∧
      (t.tstat.getLsbD 5 = true → ∀ x, Tube.parasiteRun s.cfg (x :: rest) t = Tube.parasiteRun s.cfg rest t) ∧
      (t.tstat.getLsbD 5 = false →
        (∀ r, Tube.parasiteRun s.cfg (.read r :: rest) t = Tube.parasiteRun s.cfg rest
          { (t.parasiteRead s.cfg r).2 with pdata := (t.parasiteRead s.cfg r).1 }) ∧
        ∀ r v, Tube.parasiteRun s.cfg (.write r v :: rest) t = Tube.parasiteRun s.cfg rest (t.parasiteWrite s.cfg r v))

/-- O34. A read in a VIA's, the FDC's or the Tube's window delivers the byte and leaves the world of the device's
decoded register read, and a write leaves the world of its decoded register write or is refused with its reason;
registers and memory are unchanged. The address decode is a parameter of the model (log entry 9), and so is the bus
address that exec of a device row shows (log entry 16). Rules: R101, R102, R103, R104. -/
def Obligations.BusReachesDevices : Prop :=
  ∀ (a : Word) (v : Byte) (s : State) (rd wr : Instr),
    (target s.cfg a = .sysVia ∧ rd = decodeViaRead .system (viaReg a) ∧ wr = decodeViaWrite .system (viaReg a) v ∨
      target s.cfg a = .usrVia ∧ rd = decodeViaRead .user (viaReg a) ∧ wr = decodeViaWrite .user (viaReg a) v ∨
      target s.cfg a = .fdc ∧ rd = decodeFdcRead (fdcReg a) ∧ wr = decodeFdcWrite (fdcReg a) v ∨
      target s.cfg a = .tube ∧ rd = decodeTubeHostRead (tubeReg a) ∧ wr = decodeTubeHostWrite (tubeReg a) v) →
    (∃ t, exec rd s = .next t ∧ (busRead a s).1 = t.cpu.dbus ∧ (busRead a s).2.world = t.world ∧
      (busRead a s).2.regs = s.regs ∧ (busRead a s).2.mem = s.mem) ∧
    (∀ u, busWrite a v s = .ok u → ∃ t, exec wr s = .next t ∧ u.world = t.world ∧ u.regs = s.regs ∧ u.mem = s.mem) ∧
    (∀ e, busWrite a v s = .error e → exec wr s = .refused e)

/-! ### The VIAs -/

/-- O35. For both VIAs and every state, reading $0, $1 or $F answers a next state with the byte whose bits come from the
output register, the latch or the pins (PB7 from T1 while ACR bit 7 is set); the port's C1 flag is cleared and its
C2 flag unless the C2 mode is 1 or 3; $1 (and $F when VIA_REGF_HANDSHAKE) drives CA2 low in modes 4 and 5 and arms
the pulse in mode 5; nothing else changes, and with the parameter off $F changes nothing. The bus address
viaAccessed shows is the model's choice (log entry 16). Rules: R405, R406, R407, R410, R412, R413, R471. -/
def Obligations.ViaPortReads : Prop :=
  ∀ (id : ViaId) (s : State),
    let v := s.via id
    (∃ x w, exec (.viaReadOrb id) s = .next (viaAccessed id 0 x true w s) ∧
      (∀ k : Fin 8, bit x k.val =
        if k.val = 7 ∧ bit v.acr 7 = true then v.t1Pb7
        else if bit v.b.ddr k.val then bit v.b.or k.val
        else if bit v.acr 1 then bit v.b.latch k.val else bit v.b.p k.val) ∧
      w = { v with ifr := w.ifr } ∧
      ∀ j : Fin 7, w.ifr.getLsbD j.val = flagsAfterAccess .b (v.c2Mode .b) v.ifr j.val) ∧
    ∀ (i : Instr) (r : Word) (handshake : Bool),
      (i = .viaReadOra id ∧ r = 1 ∧ handshake = true ∨ i = .viaReadOraF id ∧ r = 15 ∧ handshake = s.cfg.viaRegFHandshake) →
      ∃ x w, exec i s = .next (viaAccessed id r x true w s) ∧
        (∀ k : Fin 8, bit x k.val =
          if bit v.a.ddr k.val then bit v.a.or k.val
          else if bit v.acr 0 then bit v.a.latch k.val else bit v.a.p k.val) ∧
        (handshake = false → w = v) ∧
        (handshake = true →
          w = { v with
            ifr := w.ifr
            a := { v.a with
              c2 := if v.c2Mode .a = 4 ∨ v.c2Mode .a = 5 then false else v.a.c2
              pulse := if v.c2Mode .a = 5 then s.cfg.viaPulseLen else v.a.pulse } } ∧
          ∀ j : Fin 7, w.ifr.getLsbD j.val = flagsAfterAccess .a (v.c2Mode .a) v.ifr j.val)

/-- O36. For both VIAs and every state and byte, writing $0, $1 or $F answers a next state with the output register
written, each output pin driven from it and each input pin from the environment (PB7 from T1 while ACR bit 7 is
set), the port's C1 flag cleared and its C2 flag unless the mode is 1 or 3, C2 low in modes 4 and 5 and the pulse
armed in mode 5; for $F flags and C2 change only when VIA_REGF_HANDSHAKE; nothing else changes. The bus address
viaAccessed shows is the model's choice (log entry 16). Rules: R404, R406, R407, R411, R414, R415, R471. -/
def Obligations.ViaPortWrites : Prop :=
  ∀ (id : ViaId) (d : Byte) (s : State),
    let v := s.via id
    (∃ w, exec (.viaWriteOrb id d) s = .next (viaAccessed id 0 d false w s) ∧
      w = { v with
        ifr := w.ifr
        b := { v.b with
          or := d, p := w.b.p
          c2 := if v.c2Mode .b = 4 ∨ v.c2Mode .b = 5 then false else v.b.c2
          pulse := if v.c2Mode .b = 5 then s.cfg.viaPulseLen else v.b.pulse } } ∧
      (∀ k : Fin 8, bit w.b.p k.val =
        if k.val = 7 ∧ bit v.acr 7 = true then v.t1Pb7
        else if bit v.b.ddr k.val then bit d k.val else bit v.b.ext k.val) ∧
      ∀ j : Fin 7, w.ifr.getLsbD j.val = flagsAfterAccess .b (v.c2Mode .b) v.ifr j.val) ∧
    ∀ (i : Instr) (r : Word) (handshake : Bool),
      (i = .viaWriteOra id d ∧ r = 1 ∧ handshake = true ∨
        i = .viaWriteOraF id d ∧ r = 15 ∧ handshake = s.cfg.viaRegFHandshake) →
      ∃ w, exec i s = .next (viaAccessed id r d false w s) ∧
        w = { v with
          ifr := w.ifr
          a := { v.a with
            or := d, p := w.a.p
            c2 := if handshake = true ∧ (v.c2Mode .a = 4 ∨ v.c2Mode .a = 5) then false else v.a.c2
            pulse := if handshake = true ∧ v.c2Mode .a = 5 then s.cfg.viaPulseLen else v.a.pulse } } ∧
        (∀ k : Fin 8, bit w.a.p k.val = if bit v.a.ddr k.val then bit d k.val else bit v.a.ext k.val) ∧
        ∀ j : Fin 7, w.ifr.getLsbD j.val =
          if handshake then flagsAfterAccess .a (v.c2Mode .a) v.ifr j.val else v.ifr.getLsbD j.val

/-- O37. For every VIA state: RegRead of $4 gives the counter's low byte and clears the T1 flag unless T1 has just timed
out, and nothing else changes; $5 gives the high byte, $6 and $7 the latches, and none of the three changes
anything; RegWrite of $6 stores the low latch only; RegWrite of $7 stores the high latch and clears the T1 flag
under the same guard, the counter, its reload, pending and PB7 states untouched. The statement is about the device's
own register functions; how exec reaches them, with the bus, is ViaTimerAccesses. Rules: R408, R420, R422, R424,
R425, R426. -/
def Obligations.ViaT1Registers : Prop :=
  ∀ (cfg : Config) (d : Byte) (v : Via),
    ((v.regRead cfg 4).1.toNat = v.t1.toNat % 256 ∧
      (v.regRead cfg 4).2 = { v with ifr := (v.regRead cfg 4).2.ifr } ∧
      ∀ j : Fin 7, (v.regRead cfg 4).2.ifr.getLsbD j.val = (v.ifr.getLsbD j.val && (j.val != 6 || v.t1Timeout))) ∧
    (v.regRead cfg 5).1.toNat = v.t1.toNat / 256 ∧ (v.regRead cfg 5).2 = v ∧
    v.regRead cfg 6 = (v.t1ll, v) ∧ v.regRead cfg 7 = (v.t1lh, v) ∧
    v.regWrite cfg 6 d = { v with t1ll := d } ∧
    v.regWrite cfg 7 d = { v with t1lh := d, ifr := (v.regWrite cfg 7 d).ifr } ∧
    ∀ j : Fin 7, (v.regWrite cfg 7 d).ifr.getLsbD j.val = (v.ifr.getLsbD j.val && (j.val != 6 || v.t1Timeout))

/-- O38. For both VIAs and every state each timer row answers a next state. Reading $4 to $7 and writing $6 and $7 are
the RegRead and RegWrite of the register (ViaT1Registers); writing $4 stores the low latch only; writing $5 stores
the high latch, arms pending and reload, drives PB7 low with its pin, and clears the T1 flag unless T1 has just
timed out; $8 reads T2's low byte and clears the T2 flag; $9 reads the high byte and changes nothing; writing $8
stores the low latch only; writing $9 stores the high latch, arms reload and pending, and clears the T2 flag. The
counters themselves are never written. The bus address viaAccessed shows is the model's choice (log entry 16).
Rules: R421, R423, R408, R404, R427, R428, R429, R430, R420, R426. -/
def Obligations.ViaTimerAccesses : Prop :=
  ∀ (id : ViaId) (d : Byte) (s : State),
    let v := s.via id
    exec (.viaReadT1cl id) s = .next (viaAccessed id 4 (v.regRead s.cfg 4).1 true (v.regRead s.cfg 4).2 s) ∧
    exec (.viaReadT1ch id) s = .next (viaAccessed id 5 (v.regRead s.cfg 5).1 true (v.regRead s.cfg 5).2 s) ∧
    exec (.viaReadT1ll id) s = .next (viaAccessed id 6 (v.regRead s.cfg 6).1 true (v.regRead s.cfg 6).2 s) ∧
    exec (.viaReadT1lh id) s = .next (viaAccessed id 7 (v.regRead s.cfg 7).1 true (v.regRead s.cfg 7).2 s) ∧
    exec (.viaWriteT1ll id d) s = .next (viaAccessed id 6 d false (v.regWrite s.cfg 6 d) s) ∧
    exec (.viaWriteT1lh id d) s = .next (viaAccessed id 7 d false (v.regWrite s.cfg 7 d) s) ∧
    exec (.viaWriteT1cl id d) s = .next (viaAccessed id 4 d false { v with t1ll := d } s) ∧
    (∃ w, exec (.viaWriteT1ch id d) s = .next (viaAccessed id 5 d false w s) ∧
      w = { v with
        t1lh := d, t1Pending := true, t1Reload := true, t1Pb7 := false
        ifr := w.ifr, b := { v.b with p := w.b.p } } ∧
      (∀ k : Fin 8, bit w.b.p k.val =
        if k.val = 7 ∧ bit v.acr 7 = true then false
        else if bit v.b.ddr k.val then bit v.b.or k.val else bit v.b.ext k.val) ∧
      ∀ j : Fin 7, w.ifr.getLsbD j.val = (v.ifr.getLsbD j.val && (j.val != 6 || v.t1Timeout))) ∧
    (∃ x w, exec (.viaReadT2cl id) s = .next (viaAccessed id 8 x true w s) ∧ x.toNat = v.t2.toNat % 256 ∧
      w = { v with ifr := w.ifr } ∧ ∀ j : Fin 7, w.ifr.getLsbD j.val = (v.ifr.getLsbD j.val && j.val != 5)) ∧
    (∃ x, exec (.viaReadT2ch id) s = .next (viaAccessed id 9 x true v s) ∧ x.toNat = v.t2.toNat / 256) ∧
    exec (.viaWriteT2cl id d) s = .next (viaAccessed id 8 d false { v with t2ll := d } s) ∧
    (∃ w, exec (.viaWriteT2ch id d) s = .next (viaAccessed id 9 d false w s) ∧
      w = { v with t2lh := d, t2Reload := true, t2Pending := true, ifr := w.ifr } ∧
      ∀ j : Fin 7, w.ifr.getLsbD j.val = (v.ifr.getLsbD j.val && j.val != 5))

/-- O39. For both VIAs and every state: $2, $3, $A, $B and $C read their register and change nothing; writing $2 or $3
stores the direction register and recomputes that port's pins; writing $A stores the byte only; writing $C stores
PCR and gives a C2 that is now an input the environment's level, and keeps one that is an output; writing $B stores
ACR, cancels a pending T1 interrupt exactly when bit 6 goes from 1 to 0, and recomputes port B's pins; reading and
writing $D and $E are the RegRead and RegWrite of the register (ViaInterruptRegisters). The bus address viaAccessed
shows is the model's choice (log entry 16). Rules: R416, R417, R431, R432, R433, R434, R404, R440, R441, R442, R443. -/
def Obligations.ViaPlainRegisters : Prop :=
  ∀ (id : ViaId) (d : Byte) (s : State),
    let v := s.via id
    exec (.viaReadDdrb id) s = .next (viaAccessed id 2 v.b.ddr true v s) ∧
    exec (.viaReadDdra id) s = .next (viaAccessed id 3 v.a.ddr true v s) ∧
    exec (.viaReadSr id) s = .next (viaAccessed id 10 v.sr true v s) ∧
    exec (.viaReadAcr id) s = .next (viaAccessed id 11 v.acr true v s) ∧
    exec (.viaReadPcr id) s = .next (viaAccessed id 12 v.pcr true v s) ∧
    exec (.viaWriteSr id d) s = .next (viaAccessed id 10 d false { v with sr := d } s) ∧
    exec (.viaWritePcr id d) s = .next (viaAccessed id 12 d false { v with
      pcr := d
      a := { v.a with c2 := if bit d 3 then v.a.c2 else v.a.extC2 }
      b := { v.b with c2 := if bit d 7 then v.b.c2 else v.b.extC2 } } s) ∧
    exec (.viaReadIfr id) s = .next (viaAccessed id 13 (v.regRead s.cfg 13).1 true (v.regRead s.cfg 13).2 s) ∧
    exec (.viaReadIer id) s = .next (viaAccessed id 14 (v.regRead s.cfg 14).1 true (v.regRead s.cfg 14).2 s) ∧
    exec (.viaWriteIfr id d) s = .next (viaAccessed id 13 d false (v.regWrite s.cfg 13 d) s) ∧
    exec (.viaWriteIer id d) s = .next (viaAccessed id 14 d false (v.regWrite s.cfg 14 d) s) ∧
    (∃ w, exec (.viaWriteDdrb id d) s = .next (viaAccessed id 2 d false w s) ∧
      w = { v with b := { v.b with ddr := d, p := w.b.p } } ∧
      ∀ k : Fin 8, bit w.b.p k.val =
        if k.val = 7 ∧ bit v.acr 7 = true then v.t1Pb7
        else if bit d k.val then bit v.b.or k.val else bit v.b.ext k.val) ∧
    (∃ w, exec (.viaWriteDdra id d) s = .next (viaAccessed id 3 d false w s) ∧
      w = { v with a := { v.a with ddr := d, p := w.a.p } } ∧
      ∀ k : Fin 8, bit w.a.p k.val = if bit d k.val then bit v.a.or k.val else bit v.a.ext k.val) ∧
    (∃ w, exec (.viaWriteAcr id d) s = .next (viaAccessed id 11 d false w s) ∧
      w = { v with
        acr := d, b := { v.b with p := w.b.p }
        t1Pending := if bit v.acr 6 = true ∧ bit d 6 = false then false else v.t1Pending } ∧
      ∀ k : Fin 8, bit w.b.p k.val =
        if k.val = 7 ∧ bit d 7 = true then v.t1Pb7
        else if bit v.b.ddr k.val then bit v.b.or k.val else bit v.b.ext k.val)

/-- O40. For every VIA state: RegRead of $D gives the seven flags with bit 7 set exactly when an enabled flag is set,
RegRead of $E gives the enables with bit 7 set, and neither changes anything; RegWrite of $D clears the flags whose
bits are 1 and only those, and nothing else changes; RegWrite of $E sets the named enables when bit 7 is 1 and
clears them when it is 0, and nothing else changes. The statement is about the device's own register functions; how
exec reaches them, with the bus, is ViaPlainRegisters. Rules: R440, R441, R442, R443. -/
def Obligations.ViaInterruptRegisters : Prop :=
  ∀ (cfg : Config) (d : Byte) (v : Via),
    (v.regRead cfg 13).2 = v ∧ (∀ j : Fin 7, bit (v.regRead cfg 13).1 j.val = v.ifr.getLsbD j.val) ∧
    (bit (v.regRead cfg 13).1 7 = true ↔ ∃ j : Fin 7, v.ier.getLsbD j.val = true ∧ v.ifr.getLsbD j.val = true) ∧
    (v.regRead cfg 14).2 = v ∧ (∀ j : Fin 7, bit (v.regRead cfg 14).1 j.val = v.ier.getLsbD j.val) ∧
    bit (v.regRead cfg 14).1 7 = true ∧
    v.regWrite cfg 13 d = { v with ifr := (v.regWrite cfg 13 d).ifr } ∧
    (∀ j : Fin 7, (v.regWrite cfg 13 d).ifr.getLsbD j.val = (v.ifr.getLsbD j.val && !bit d j.val)) ∧
    v.regWrite cfg 14 d = { v with ier := (v.regWrite cfg 14 d).ier } ∧
    ∀ j : Fin 7, (v.regWrite cfg 14 d).ier.getLsbD j.val =
      if bit d 7 then v.ier.getLsbD j.val || bit d j.val else v.ier.getLsbD j.val && !bit d j.val

/-- O41. For every VIA state and start byte, with N the latch: after trailing edge k + 1 (k up to N) the counter is N -
k with no timeout and the T1 flag as the start left it; after edge N + 2 it is $FFFF with a timeout and the flag
still as it was; the next leading edge sets the flag; edge N + 3 reloads N, with T1 re-armed exactly in continuous
mode. PB7's level is low from the start through edge N + 2, and the leading edge that sets the flag toggles it high;
while ACR bit 7 is set, pin PB7 shows it all the way. Rules: R456, R450, R423, R404, R663. -/
def Obligations.T1Timing : Prop :=
  ∀ (v : Via) (d : Byte),
    let w := v.writeT1ch d
    let n := mkWord d v.t1ll
    let late := (Via.afterEdges (n.toNat + 1) w).leadingEdge
    (∀ k, k ≤ n.toNat →
      (Via.afterEdges k w).t1.toNat = n.toNat - k ∧ (Via.afterEdges k w).t1Timeout = false ∧
      (Via.afterEdges k w).ifr.getLsbD 6 = w.ifr.getLsbD 6) ∧
    (Via.afterEdges (n.toNat + 1) w).t1 = 0xFFFF ∧ (Via.afterEdges (n.toNat + 1) w).t1Timeout = true ∧
    (Via.afterEdges (n.toNat + 1) w).ifr.getLsbD 6 = w.ifr.getLsbD 6 ∧ late.ifr.getLsbD 6 = true ∧
    (Via.afterEdges (n.toNat + 2) w).t1 = n ∧ (Via.afterEdges (n.toNat + 2) w).t1Timeout = false ∧
    (Via.afterEdges (n.toNat + 2) w).t1Pending = bit v.acr 6 ∧
    w.t1Pb7 = false ∧ (bit v.acr 7 = true → bit w.b.p 7 = false) ∧
    (∀ k, k ≤ n.toNat + 1 → (Via.afterEdges k w).t1Pb7 = false ∧
      (bit v.acr 7 = true → bit (Via.afterEdges k w).b.p 7 = false)) ∧
    late.t1Pb7 = true ∧ (bit v.acr 7 = true → bit late.b.p 7 = true) ∧
    (Via.afterEdges (n.toNat + 2) w).t1Pb7 = true ∧
    (bit v.acr 7 = true → bit (Via.afterEdges (n.toNat + 2) w).b.p 7 = true)

/-- O42. For every VIA state and start byte, with N the latch: with ACR bit 5 clear, after trailing edge k + 1 the
counter is N - k modulo 2^16 for every k, and the T2 flag is clear up to edge N + 2 and set from edge N + 3 on, when
T2 is no longer pending. With ACR bit 5 set, the start's trailing edge loads N; a leading edge leaves the counter
and notes a count exactly when PB6 was 1 at the one before and is 0 now, or one was noted already; a trailing edge
without a reload counts down by one, with a timeout if the counter was 0, exactly when a count is noted, uses it up,
and otherwise leaves the counter with no timeout. In both modes a leading edge after a timeout sets the flag if T2
is pending, and T2 is then no longer pending. Rules: R457, R450, R451, R430. -/
def Obligations.T2Timing : Prop :=
  ∀ (v : Via) (d : Byte),
    let w := v.writeT2ch d
    let n := mkWord d v.t2ll
    (bit v.acr 5 = false → ∀ k : Nat,
      (Via.afterEdges k w).t2 = n - BitVec.ofNat 16 k ∧
      ((Via.afterEdges k w).ifr.getLsbD 5 = true ↔ n.toNat + 2 ≤ k) ∧
      ((Via.afterEdges k w).t2Pending = false ↔ n.toNat + 2 ≤ k)) ∧
    (bit v.acr 5 = true →
      w.trailingEdge.t2 = n ∧ w.trailingEdge.t2Timeout = false ∧ w.trailingEdge.t2Reload = false ∧
      v.leadingEdge.t2 = v.t2 ∧ v.leadingEdge.oldPb6 = bit v.leadingEdge.b.p 6 ∧
      (v.leadingEdge.t2Count = true ↔
        v.t2Count = true ∨ (v.oldPb6 = true ∧ bit v.leadingEdge.b.p 6 = false)) ∧
      (v.t2Reload = false →
        v.trailingEdge.t2 = (if v.t2Count then v.t2 - 1 else v.t2) ∧
        (v.trailingEdge.t2Timeout = true ↔ v.t2Count = true ∧ v.t2 = 0) ∧
        v.trailingEdge.t2Count = false ∧ v.trailingEdge.t2Reload = false)) ∧
    (v.t2Timeout = true → v.t2Pending = true →
      v.leadingEdge.ifr.getLsbD 5 = true ∧ v.leadingEdge.t2Pending = false)

/-- O43. For every VIA state and port: the C1 rule sets the C1 flag exactly for (c1, old_c1, pcr bit) = (1,0,1) and
(0,1,0), then also captures the pins if the port's latch is enabled and releases C2 in mode 4, and changes nothing
else; the C2 rule sets the C2 flag on the falling edge in modes 0 and 1 and the rising edge in modes 2 and 3 and
never in modes 4 to 7, counts the pulse down in mode 5 and raises C2 at its end, drives C2 low in mode 6 and high in
mode 7, abandons a pulse in every mode but 5, and changes nothing else. Rules: R452, R453, R454. -/
def Obligations.ControlLines : Prop :=
  ∀ (v : Via) (x : PortSel),
    let q := v.port x
    let active := (q.c1 && !q.oldC1 && v.c1Pos x) || (!q.c1 && q.oldC1 && !v.c1Pos x)
    (v.trailC1 x = ({ v with ifr := (v.trailC1 x).ifr } : Via).setPort x { q with
      latch := if active && v.latchEnable x then q.p else q.latch
      c2 := if active && v.c2Mode x == 4 then true else q.c2 }) ∧
    (∀ j : Fin 7, (v.trailC1 x).ifr.getLsbD j.val = (v.ifr.getLsbD j.val || (active && j.val == c1Bit x))) ∧
    (v.trailC2 x = ({ v with ifr := (v.trailC2 x).ifr } : Via).setPort x { q with
      pulse := if v.c2Mode x = 5 then q.pulse - 1 else 0
      c2 := if v.c2Mode x = 5 ∧ q.pulse = 1 then true
        else if v.c2Mode x = 6 then false else if v.c2Mode x = 7 then true else q.c2 }) ∧
    (∀ j : Fin 7, (v.trailC2 x).ifr.getLsbD j.val =
      (v.ifr.getLsbD j.val || (j.val == c2Bit x &&
        ((v.c2Mode x == 0 || v.c2Mode x == 1) && q.oldC2 && !q.c2 ||
          (v.c2Mode x == 2 || v.c2Mode x == 3) && !q.oldC2 && q.c2))))

/-- O44. For every VIA state and both edges: a set flag stays set, the SR flag is unchanged, and the output, direction,
ACR, PCR, SR, IER and latch registers of the timers are unchanged. Rules: R39, R36, R450, R459. -/
def Obligations.EdgesOnlyRaiseFlags : Prop :=
  ∀ (v w : Via), (w = v.leadingEdge ∨ w = v.trailingEdge) →
    (∀ j : Fin 7, v.ifr.getLsbD j.val = true → w.ifr.getLsbD j.val = true) ∧
    w.ifr.getLsbD 2 = v.ifr.getLsbD 2 ∧ w.irqMask = (w.ier &&& w.ifr) ∧ w.id = v.id ∧
    w.a.or = v.a.or ∧ w.b.or = v.b.or ∧ w.a.ddr = v.a.ddr ∧ w.b.ddr = v.b.ddr ∧ w.acr = v.acr ∧ w.pcr = v.pcr ∧
    w.sr = v.sr ∧ w.ier = v.ier ∧ w.t1ll = v.t1ll ∧ w.t1lh = v.t1lh ∧ w.t2ll = v.t2ll ∧ w.t2lh = v.t2lh

/-! ### The floppy disc controller -/

/-- O45. In every state: reading status gives motor, and write protect, track 0 and index live from the drive in the
Type I layout or the stored bits and DRQ in the other, with bits 5, 4, 3, 0 as stored, and clears INTRQ only; track
and sector read and write plainly; reading data returns it and clears DRQ, writing stores it and clears DRQ. The bus
address fdcAccessed shows is the model's choice (log entry 16), and isTrack0 and writeProtected are the answers of
the model's drive handler (log entry 8). Rules: R486, R488, R489, R490. -/
def Obligations.FdcRegisters : Prop :=
  ∀ (v : Byte) (s : State),
    let f := s.fdc
    (∃ x, exec .fdcReadStatus s = .next (fdcAccessed 0 x true { f with intrq := false } s) ∧
      bit x 7 = f.motor ∧
      bit x 6 = (if f.statusType1 then f.drive.writeProtected else bit f.status 6) ∧
      bit x 5 = bit f.status 5 ∧ bit x 4 = bit f.status 4 ∧ bit x 3 = bit f.status 3 ∧
      bit x 2 = (if f.statusType1 then f.drive.isTrack0 else bit f.status 2) ∧
      bit x 1 = (if f.statusType1 then f.motor && decide (f.indexUs < s.cfg.fdcIndexPulseUs) else f.drq) ∧
      bit x 0 = bit f.status 0) ∧
    exec .fdcReadTrack s = .next (fdcAccessed 1 f.track true f s) ∧
    exec .fdcReadSector s = .next (fdcAccessed 2 f.sector true f s) ∧
    exec .fdcReadData s = .next (fdcAccessed 3 f.data true { f with drq := false } s) ∧
    exec (.fdcWriteTrack v) s = .next (fdcAccessed 1 v false { f with track := v } s) ∧
    exec (.fdcWriteSector v) s = .next (fdcAccessed 2 v false { f with sector := v } s) ∧
    exec (.fdcWriteData v) s = .next (fdcAccessed 3 v false { f with data := v, drq := false } s)

/-- O46. For Restore, Seek, Step, Step-In, Step-Out, Read Sector, Write Sector and Read Address, any byte with the
command's fixed bits and any state in which the controller is not busy: exec answers a next state in which only the
controller and the bus latches have changed; the byte is latched, busy set, the pins, idle count and index interrupt
cleared, the status layout chosen by bit 7, bits 4 and 3 cleared, the motor on (with SpinUp if it was off); with h =
0 and the motor off it waits the spin-up time and will then start in the command's first state, else status bit 5 is
set and it stands in that state; Step-In and Step-Out set the direction, and track, sector and data are unchanged.
The bus address fdcAccessed shows is the model's choice (log entry 16), and spinUp and writeProtected are the
model's drive handler (log entry 8). Rules: R487, R495, R500, R501, R502, R503, R504, R510, R511, R512, R520. -/
def Obligations.FdcCommandStarts : Prop :=
  ∀ (i : Instr) (v : Byte) (first : FdcState) (s : State), i.WellFormed → commandByte i = some v →
    firstState i s.fdc.drive.writeProtected = some first → s.fdc.busy = false →
    ∃ f, exec i s = .next (fdcAccessed 0 v false f s) ∧
      f.command = v ∧ f.busy = true ∧ f.intrq = false ∧ f.drq = false ∧ f.idlePulses = 0 ∧ f.irqOnIndex = false ∧
      f.statusType1 = !bit v 7 ∧ bit f.status 4 = false ∧ bit f.status 3 = false ∧
      f.motor = true ∧ f.drive = (if s.fdc.motor then s.fdc.drive else s.fdc.drive.spinUp) ∧
      (if s.fdc.motor = false ∧ bit v 3 = false then
        f.state = .wait ∧ f.nextState = .spinUp ∧ f.afterSpinup = first ∧ bit f.status 5 = false ∧
          f.waitUs = s.cfg.fdcSpinupPulses * s.cfg.fdcIndexPeriodUs
      else f.state = first ∧ bit f.status 5 = true) ∧
      f.track = s.fdc.track ∧ f.sector = s.fdc.sector ∧ f.data = s.fdc.data ∧
      (f.dir = match i with
        | .fdcCmdStepIn _ => true
        | .fdcCmdStepOut _ => false
        | _ => s.fdc.dir) ∧
      (i = .fdcCmdRestore v → f.restoreCount = 0) ∧
      (bit f.status 6 = match i with
        | .fdcCmdWriteSector _ => s.fdc.drive.writeProtected
        | .fdcCmdReadSector _ => false
        | .fdcCmdReadAddress _ => false
        | _ => bit s.fdc.status 6)

/-- O47. For every byte and state, writing the FDC's command register is exec of the command the byte decodes to; below
$E0 it answers a next state, and when not busy that state has the byte latched; while busy every command but Force
Interrupt leaves the controller as it was. Read Track and Write Track, the two commands to which the spec gives no
other effect, are refused under their own names while not busy and ignored while busy. The bus address fdcAccessed
shows is the model's choice (log entry 16). Rules: R487, R166, R521, R522. -/
def Obligations.FdcCommandWrite : Prop :=
  ∀ (v : Byte) (s : State),
    exec (.fdcWriteCommand v) s = exec (decodeFdcCommand v) s ∧
    (v.toNat < 0xE0 → s.fdc.busy = false →
      ∃ t, exec (.fdcWriteCommand v) s = .next t ∧ t.fdc.command = v ∧ t.regs = s.regs ∧ t.mem = s.mem) ∧
    (v.toNat < 0xE0 → ∃ t, exec (.fdcWriteCommand v) s = .next t) ∧
    (s.fdc.busy = true → v.toNat / 16 ≠ 0xD →
      exec (.fdcWriteCommand v) s = .next (fdcAccessed 0 v false s.fdc s)) ∧
    (s.fdc.busy = false →
      exec (.fdcCmdReadTrack v) s = .refused (.fdcReadTrack v) ∧
      exec (.fdcCmdWriteTrack v) s = .refused (.fdcWriteTrack v)) ∧
    (s.fdc.busy = true →
      exec (.fdcCmdReadTrack v) s = .next (fdcAccessed 0 v false s.fdc s) ∧
      exec (.fdcCmdWriteTrack v) s = .next (fdcAccessed 0 v false s.fdc s))

/-- O48. For every byte and state Force Interrupt answers a next state in which only the controller and the bus latches
have changed: the byte latched, state Idle, idle count cleared, the index interrupt following bit 2, INTRQ raised by
bit 3 and else as it was; while busy the wait is dropped and busy cleared with every other status bit and the layout
kept, else the Type I layout is chosen and status bits 5, 4, 3 and 0 are cleared. The bus address fdcAccessed shows
is the model's choice (log entry 16). Rules: R525. -/
def Obligations.ForceInterrupt : Prop :=
  ∀ (v : Byte) (s : State),
    ∃ f, exec (.fdcCmdForceInterrupt v) s = .next (fdcAccessed 0 v false f s) ∧
      f = { s.fdc with
        command := v, state := .idle, idlePulses := 0, irqOnIndex := bit v 2, intrq := s.fdc.intrq || bit v 3
        waitUs := if s.fdc.busy then 0 else s.fdc.waitUs
        statusType1 := if s.fdc.busy then s.fdc.statusType1 else true
        status := f.status } ∧
      ∀ k : Fin 8, bit f.status k.val = (bit s.fdc.status k.val &&
        (if s.fdc.busy then k.val != 0 else k.val == 1 || k.val == 2 || k.val == 6 || k.val == 7))

/-- O49. For every controller waiting with n + 1 microseconds left, a tick being one: after k up to n updates it still
waits with n + 1 - k left, its registers, status, DRQ, drive and position unchanged; in update n + 1 it goes to its
next state and runs it. That the states run in one update are cut at eight rounds is the model's choice (log entry
21). It counts updates with FDC_TICK_US at R481's value, 1 (log entry 17). Rules: R481, R482, R483, R53. -/
def Obligations.FdcWaits : Prop :=
  ∀ (cfg : Config) (f : Fdc) (n : Nat), cfg.fdcTickUs = 1 → f.state = .wait → f.waitUs = n + 1 →
    (∀ k, k ≤ n →
      let g := Fdc.updates cfg k f
      g.state = .wait ∧ g.waitUs = n + 1 - k ∧ g.nextState = f.nextState ∧ g.track = f.track ∧ g.sector = f.sector ∧
      g.data = f.data ∧ g.status = f.status ∧ g.drq = f.drq ∧ g.offset = f.offset ∧ g.drive = f.drive ∧
      g.command = f.command ∧ g.motor = f.motor) ∧
    Fdc.updates cfg (n + 1) f = Fdc.runStates cfg 8
      { (Fdc.updates cfg n f).indexTick cfg with waitUs := 0, state := f.nextState }

/-- O50. For every controller waiting n + 1 updates: Read_Byte puts the handler's byte at the offset (or, when there is
none, the old byte) into data and raises DRQ; ReadAddress_Byte does so with the address record's byte and leads to
Finish after the sixth; Write_Byte gives the handler the data byte, or $00 if DRQ was still up, and raises DRQ
unless the sector is complete; the three count the offset, set lost data exactly if DRQ was still up, change no
other status bit, and wait one byte time for the same state or, at the sector's size, for the boundary state.
Write_FirstDRQ raises DRQ, changes no status bit, offset, data or drive, and waits one byte time for Write_Byte. In
the boundary states a multi-sector command whose next sector is on this track goes on with it, sector and size taken
over and the offset 0; any other finishes idle with INTRQ and the sector register kept; Read_NextSector sets lost
data exactly if DRQ was still up, Write_NextSector never, and no other status bit but busy changes. Finish clears
busy, raises INTRQ, keeps DRQ, and rests idle. Which byte a sector holds and what a write stores are the model's
drive handler (log entry 8). It counts updates with FDC_TICK_US at R481's value, 1 (log entry 17). Rules: R510,
R511, R515, R520, R483, R484, R485, R533. -/
def Obligations.SectorBytes : Prop :=
  ∀ (cfg : Config) (f : Fdc) (n : Nat), cfg.fdcTickUs = 1 → f.state = .wait → f.waitUs = n + 1 →
    let g := Fdc.updates cfg (n + 1) f
    (f.nextState = .readByte →
      g.data = (f.drive.getByte f.sector f.offset).getD f.data ∧ g.drq = true ∧ g.drive = f.drive ∧
      g.nextState = (if f.offset + 1 = f.secSize then .readNextSector else .readByte)) ∧
    (f.nextState = .readAddressByte →
      (∀ b, f.addrBuf[f.offset.toNat]? = some b → g.data = b) ∧ g.drq = true ∧ g.drive = f.drive ∧
      g.addrBuf = f.addrBuf ∧ g.nextState = (if f.offset = 5 then .finish else .readAddressByte)) ∧
    (f.nextState = .writeByte →
      g.drive = f.drive.setByte f.sector f.offset (if f.drq then 0 else f.data) ∧ g.data = f.data ∧
      g.drq = (if f.offset + 1 = f.secSize then f.drq else true) ∧
      g.nextState = (if f.offset + 1 = f.secSize then .writeNextSector else .writeByte)) ∧
    (f.nextState = .readByte ∨ f.nextState = .readAddressByte ∨ f.nextState = .writeByte →
      g.state = .wait ∧ g.waitUs = cfg.fdcByteUs ∧ g.offset = f.offset + 1 ∧ g.track = f.track ∧ g.sector = f.sector ∧
      ∀ k : Fin 8, bit g.status k.val = (bit f.status k.val || (k.val == 2 && f.drq))) ∧
    (f.nextState = .writeFirstDrq →
      g.drq = true ∧ g.status = f.status ∧ g.offset = f.offset ∧ g.data = f.data ∧ g.drive = f.drive ∧
      g.track = f.track ∧ g.sector = f.sector ∧ g.state = .wait ∧ g.waitUs = cfg.fdcByteUs ∧ g.nextState = .writeByte) ∧
    (f.nextState = .readNextSector ∨ f.nextState = .writeNextSector →
      let lost := f.nextState == .readNextSector && f.drq
      (∀ q, bit f.command 4 = true → f.drive.find (f.sector + 1) f.density = some q → q.idTrack = f.track →
        g.state = .wait ∧ g.waitUs = cfg.fdcByteUs ∧ g.sector = f.sector + 1 ∧ g.offset = 0 ∧
        g.secSize = q.size.bytes ∧ g.nextState = (if f.nextState = .readNextSector then .readByte else .writeByte) ∧
        g.drq = (if f.nextState = .readNextSector then f.drq else true) ∧
        ∀ k : Fin 8, bit g.status k.val = (bit f.status k.val || (k.val == 2 && lost))) ∧
      (bit f.command 4 = false ∨ (∀ q, f.drive.find (f.sector + 1) f.density = some q → q.idTrack ≠ f.track) →
        g.state = .idle ∧ g.intrq = true ∧ g.busy = false ∧ g.sector = f.sector ∧ g.drq = f.drq ∧
        ∀ k : Fin 8, bit g.status k.val = ((bit f.status k.val || (k.val == 2 && lost)) && k.val != 0))) ∧
    (f.nextState = .finish →
      g.state = .idle ∧ g.intrq = true ∧ g.drq = f.drq ∧ g.data = f.data ∧ g.drive = f.drive ∧
      ∀ k : Fin 8, bit g.status k.val = (bit f.status k.val && k.val != 0))

/-- O51. For every controller at the start of a Restore's steps with the limit at 255. With a working sensor and the
head N tracks out (N up to 255), after N step times, the settle time if V = 1, and one update it is idle with INTRQ,
track and head at 0, and exactly N StepOut calls at the command's rate. With a sensor that never reports track 0 and
V = 1, after 255 step times and one update it is idle with INTRQ, status bit 4 set, track unchanged, and exactly 255
StepOut calls. How the drive's head moves and where track 0 is are the model's drive handler (log entry 8). It
counts updates with FDC_TICK_US at R481's value, 1 (log entry 17). Rules: R531, R500, R497, R168. -/
def Obligations.RestoreConverges : Prop :=
  ∀ (cfg : Config) (f : Fdc), cfg.fdcTickUs = 1 → f.state = .restoreCheck → f.restoreCount = 0 → cfg.fdcRestoreLimit = 255 →
    0 < cfg.fdcSettleUs →
    let ms := stepMs cfg.fdcVariant f.command
    let settle := if bit f.command 2 then cfg.fdcSettleUs else 0
    (∀ n, f.drive.track0Fault = none → f.drive.head = n → n ≤ 255 →
      let g := Fdc.updates cfg (n * (ms * 1000) + 1 + settle) f
      g.state = .idle ∧ g.intrq = true ∧ g.busy = false ∧ g.track = 0 ∧ g.drive.head = 0 ∧
      g.drive.calls = f.drive.calls ++ List.replicate n (.stepOut ms)) ∧
    (f.drive.track0Fault = some false → bit f.command 2 = true →
      let g := Fdc.updates cfg (255 * (ms * 1000) + 1) f
      g.state = .idle ∧ g.intrq = true ∧ g.busy = false ∧ g.track = f.track ∧ bit g.status 4 = true ∧
      g.drive.calls = f.drive.calls ++ List.replicate 255 (.stepOut ms))

/-- O52. For every controller with a working track 0 sensor at the start of a Seek's or a Step command's states, the end
being idle with INTRQ after the step times, the settle time if V = 1, and one update. Seek from track t to data d: d
- t StepIn calls; or t - d StepOut calls if the head has that many tracks to go, and else as many as it has, ending
with track 0; at the end track is d (or 0) and the head has moved with the calls. Step: outward at track 0 no call
and track 0; else one call in the direction dir and the track register moved by one exactly when u = 1. How the
drive's head moves and where track 0 is are the model's drive handler (log entry 8). It counts updates with
FDC_TICK_US at R481's value, 1 (log entry 17). Rules: R501, R502, R503, R504, R505, R497, R168. -/
def Obligations.SeekAndStep : Prop :=
  ∀ (cfg : Config) (f : Fdc), cfg.fdcTickUs = 1 → f.drive.track0Fault = none → 0 < cfg.fdcSettleUs →
    let ms := stepMs cfg.fdcVariant f.command
    let settle := if bit f.command 2 then cfg.fdcSettleUs else 0
    (∀ n, f.state = .seekCheck → f.data.toNat = f.track.toNat + n →
      let g := Fdc.updates cfg (n * (ms * 1000) + 1 + settle) f
      g.state = .idle ∧ g.intrq = true ∧ g.busy = false ∧ g.track = f.data ∧ g.drive.head = f.drive.head + n ∧
      g.drive.calls = f.drive.calls ++ List.replicate n (.stepIn ms)) ∧
    (∀ n, f.state = .seekCheck → f.track.toNat = f.data.toNat + n →
      let k := min n f.drive.head
      let g := Fdc.updates cfg (k * (ms * 1000) + 1 + settle) f
      g.state = .idle ∧ g.intrq = true ∧ g.busy = false ∧ g.track = (if n ≤ f.drive.head then f.data else 0) ∧
      g.drive.head = f.drive.head - k ∧ g.drive.calls = f.drive.calls ++ List.replicate k (.stepOut ms)) ∧
    (f.state = .stepOnce →
      (f.dir = false → f.drive.head = 0 →
        let g := Fdc.updates cfg (1 + settle) f
        g.state = .idle ∧ g.intrq = true ∧ g.busy = false ∧ g.track = 0 ∧ g.drive = f.drive) ∧
      (f.dir = true ∨ 0 < f.drive.head →
        let g := Fdc.updates cfg (ms * 1000 + 1 + settle) f
        g.state = .idle ∧ g.intrq = true ∧ g.busy = false ∧ g.dir = f.dir ∧
        g.track = (if bit f.command 4 then (if f.dir then f.track + 1 else f.track - 1) else f.track) ∧
        g.drive.head = (if f.dir then f.drive.head + 1 else f.drive.head - 1) ∧
        g.drive.calls = f.drive.calls ++ [if f.dir then .stepIn ms else .stepOut ms]))

/-- O53. For every controller at the start of a Type II command's or Read Address's states: after the settle time if E =
1 and one update, a Type II command whose sector is found with the track register's track waits one byte time for
its data phase at offset 0 with the sector's details stored (a read clears status bit 5); Read Address waits one
byte time with track, side, 0 and length code in the buffer's first four places (the E delay as for Type II and the
CRC bytes left free are the model's reading, log entry 13), the track byte in the sector register and offset 0. When
the search fails it is idle, after the RNF wait, with INTRQ, status bits 4 and 3 set and the drive untouched. Which
sector is found is the model's drive handler (log entry 8). It counts updates with FDC_TICK_US at R481's value, 1
(log entry 17). Rules: R512, R513, R520, R485. -/
def Obligations.SectorSearch : Prop :=
  ∀ (cfg : Config) (f : Fdc), cfg.fdcTickUs = 1 → f.state = .typeIISettle → 0 < cfg.fdcSettleUs →
    0 < cfg.fdcRnfPulses * cfg.fdcIndexPeriodUs →
    let n := (if bit f.command 2 then cfg.fdcSettleUs else 0) + 1
    let g := Fdc.updates cfg n f
    let h := Fdc.updates cfg (n + cfg.fdcRnfPulses * cfg.fdcIndexPeriodUs) f
    (∀ q, bit f.command 6 = false → f.drive.find f.sector f.density = some q → q.idTrack = f.track →
      g.state = .wait ∧ g.waitUs = cfg.fdcByteUs ∧
      g.nextState = (if bit f.command 5 then .writeFirstDrq else .readByte) ∧ g.offset = 0 ∧
      g.secSize = q.size.bytes ∧ g.secTrack = q.idTrack ∧ g.secSide = q.idSide ∧ g.sector = f.sector ∧
      ∀ k : Fin 8, bit g.status k.val = (bit f.status k.val && (k.val != 5 || bit f.command 5))) ∧
    (∀ q, bit f.command 6 = true → f.drive.find 0 f.density = some q →
      g.state = .wait ∧ g.waitUs = cfg.fdcByteUs ∧ g.nextState = .readAddressByte ∧ g.offset = 0 ∧
      g.addrBuf.take 4 = [q.idTrack, q.idSide, 0, q.size.code] ∧ g.addrBuf.length = 6 ∧ g.sector = q.idTrack ∧
      g.status = f.status) ∧
    ((bit f.command 6 = false ∧ ∀ q, f.drive.find f.sector f.density = some q → q.idTrack ≠ f.track) ∨
        (bit f.command 6 = true ∧ f.drive.find 0 f.density = none) →
      h.state = .idle ∧ h.intrq = true ∧ h.drive = f.drive ∧ h.sector = f.sector ∧ h.track = f.track ∧
      ∀ k : Fin 8, bit h.status k.val = ((bit f.status k.val && k.val != 0) || k.val == 3 || k.val == 4))

/-- O54. For every controller waiting one byte time for the first byte of a multi-sector read, with sectors s .. s+N-1
of one size z on its track and not s+N: after j times (z + 1) byte times, for each j below N, it waits for the first
byte of sector s+j; after N times (z + 1) byte times it is idle with INTRQ, sector register s+N-1, the whole last
sector read and the drive untouched. Which sectors there are is the model's drive handler (log entry 8). It counts
updates with FDC_TICK_US at R481's value, 1 (log entry 17). Rules: R532, R515, R510. -/
def Obligations.MultiSectorRead : Prop :=
  ∀ (cfg : Config) (f : Fdc) (z : SectorSize) (n : Nat), cfg.fdcTickUs = 1 → 0 < cfg.fdcByteUs → 0 < n → f.state = .wait →
    f.nextState = .readByte → f.waitUs = cfg.fdcByteUs → f.offset = 0 → f.secSize = z.bytes →
    bit f.command 4 = true →
    (∀ k, 0 < k → k < n → ∃ q, f.drive.find (f.sector + BitVec.ofNat 8 k) f.density = some q ∧
      q.idTrack = f.track ∧ q.size = z) →
    (∀ q, f.drive.find (f.sector + BitVec.ofNat 8 n) f.density = some q → q.idTrack ≠ f.track) →
    let period := (z.bytes.toNat + 1) * cfg.fdcByteUs
    (∀ j, j < n →
      let g := Fdc.updates cfg (j * period) f
      g.state = .wait ∧ g.nextState = .readByte ∧ g.waitUs = cfg.fdcByteUs ∧ g.offset = 0 ∧
      g.sector = f.sector + BitVec.ofNat 8 j) ∧
    let h := Fdc.updates cfg (n * period) f
    h.state = .idle ∧ h.intrq = true ∧ h.busy = false ∧ h.sector = f.sector + BitVec.ofNat 8 (n - 1) ∧
    h.offset = z.bytes ∧ h.drive = f.drive

/-! ### The Tube -/

/-- O55. In every state a read of register 0, 2, 4 or 6 on either side gives available, not_full and the low six bits
(tstat for register 0, ones for the others) and changes nothing but the bus or the parasite's byte; a write of
registers 2, 4 or 6 on either side and of register 0 on the parasite side changes nothing in the Tube. The bus
address tubeAccessed shows and the byte kept in tube.pdata are the model's choices (log entry 16). Rules: R552,
R554, R583, R176. -/
def Obligations.TubeStatusAndIgnored : Prop :=
  ∀ (v : Byte) (s : State),
    let t := s.tube
    exec .tubeHostRead0 s = .next (tubeAccessed 0 (t.h1.status t.tstat) true t s) ∧
    exec .tubeHostRead2 s = .next (tubeAccessed 2 (t.h2.status 0x3F) true t s) ∧
    exec .tubeHostRead4 s = .next (tubeAccessed 4 (t.h3.status 0x3F) true t s) ∧
    exec .tubeHostRead6 s = .next (tubeAccessed 6 (t.h4.status 0x3F) true t s) ∧
    exec .tubeParasiteRead0 s = .next { s with tube := { t with pdata := t.p1.status t.tstat } } ∧
    exec .tubeParasiteRead2 s = .next { s with tube := { t with pdata := t.p2.status 0x3F } } ∧
    exec .tubeParasiteRead4 s = .next { s with tube := { t with pdata := t.p3.status 0x3F } } ∧
    exec .tubeParasiteRead6 s = .next { s with tube := { t with pdata := t.p4.status 0x3F } } ∧
    exec (.tubeHostWrite2 v) s = .next (tubeAccessed 2 v false t s) ∧
    exec (.tubeHostWrite4 v) s = .next (tubeAccessed 4 v false t s) ∧
    exec (.tubeHostWrite6 v) s = .next (tubeAccessed 6 v false t s) ∧
    exec (.tubeParasiteWrite0 v) s = .next s ∧ exec (.tubeParasiteWrite2 v) s = .next s ∧
    exec (.tubeParasiteWrite4 v) s = .next s ∧ exec (.tubeParasiteWrite6 v) s = .next s ∧
    ∀ (l : Latch) (low : BitVec 6), bit (l.status low) 7 = l.available ∧ bit (l.status low) 6 = l.notFull ∧
      ∀ k : Fin 6, bit (l.status low) k.val = low.getLsbD k.val

/-- O56. In every state a host write of register 0 answers a next state: each of the six control bits is set by a 1 when
bit 7 is 1, cleared by a 1 when it is 0, and else kept; with bits 7 and 6 both 1 every count and the ring's write
index become 0 and every latch empty and not full, the data bytes kept; otherwise latches and buffers are unchanged;
the three lines are recomputed. The bus address tubeAccessed shows is the model's choice (log entry 16). Rules:
R553, R581. -/
def Obligations.TubeControl : Prop :=
  ∀ (v : Byte) (s : State),
    ∃ t, exec (.tubeHostWrite0 v) s = .next (tubeAccessed 0 v false t s) ∧
      (∀ k : Fin 6, t.tstat.getLsbD k.val =
        if bit v 7 then s.tube.tstat.getLsbD k.val || bit v k.val else s.tube.tstat.getLsbD k.val && !bit v k.val) ∧
      t.recompute s.cfg = t ∧
      (bit v 7 = true ∧ bit v 6 = true →
        t = { s.tube with
          tstat := t.tstat, hirq := t.hirq, pirq := t.pirq, pnmi := t.pnmi
          h1 := ⟨false, true⟩, h2 := ⟨false, true⟩, h3 := ⟨false, true⟩, h4 := ⟨false, true⟩
          p1 := ⟨false, true⟩, p2 := ⟨false, true⟩, p3 := ⟨false, true⟩, p4 := ⟨false, true⟩
          p2h1Wr := 0, p2h1Count := 0
          h2p3 := { s.tube.h2p3 with count := 0 }, p2h3 := { s.tube.p2h3 with count := 0 } }) ∧
      (¬ (bit v 7 = true ∧ bit v 6 = true) →
        t = { s.tube with tstat := t.tstat, hirq := t.hirq, pirq := t.pirq, pnmi := t.pnmi })

/-- O57. In every state a write of channel 1 (host), 2 or 4 (either side) stores the byte, clears the producer's
not_full and sets the consumer's available, overwriting an unread byte; a read returns the stored byte, stale if
empty, clears the consumer's available and sets the producer's not_full; the lines are recomputed and nothing else
changes. The bus address tubeAccessed shows and the byte kept in tube.pdata are the model's choices (log entry 16).
Rules: R557, R560, R561, R562, R563, R564, R572, R573, R574, R575, R580. -/
def Obligations.TubeLatches : Prop :=
  ∀ (d : Byte) (s : State),
    let t := s.tube
    exec (.tubeHostWrite1 d) s = .next (tubeAccessed 1 d false
      (({ t with h2p1 := d, h1 := { t.h1 with notFull := false }, p1 := { t.p1 with available := true } } : Tube).recompute s.cfg) s) ∧
    exec .tubeParasiteRead1 s = .next { s with tube :=
      { ({ t with p1 := { t.p1 with available := false }, h1 := { t.h1 with notFull := true } } : Tube).recompute s.cfg with pdata := t.h2p1 } } ∧
    exec (.tubeHostWrite3 d) s = .next (tubeAccessed 3 d false
      (({ t with h2p2 := d, h2 := { t.h2 with notFull := false }, p2 := { t.p2 with available := true } } : Tube).recompute s.cfg) s) ∧
    exec .tubeParasiteRead3 s = .next { s with tube :=
      { ({ t with p2 := { t.p2 with available := false }, h2 := { t.h2 with notFull := true } } : Tube).recompute s.cfg with pdata := t.h2p2 } } ∧
    exec (.tubeParasiteWrite3 d) s = .next { s with tube :=
      (({ t with p2h2 := d, p2 := { t.p2 with notFull := false }, h2 := { t.h2 with available := true } } : Tube).recompute s.cfg) } ∧
    exec .tubeHostRead3 s = .next (tubeAccessed 3 t.p2h2 true
      (({ t with h2 := { t.h2 with available := false }, p2 := { t.p2 with notFull := true } } : Tube).recompute s.cfg) s) ∧
    exec (.tubeHostWrite7 d) s = .next (tubeAccessed 7 d false
      (({ t with h2p4 := d, h4 := { t.h4 with notFull := false }, p4 := { t.p4 with available := true } } : Tube).recompute s.cfg) s) ∧
    exec .tubeParasiteRead7 s = .next { s with tube :=
      { ({ t with p4 := { t.p4 with available := false }, h4 := { t.h4 with notFull := true } } : Tube).recompute s.cfg with pdata := t.h2p4 } } ∧
    exec (.tubeParasiteWrite7 d) s = .next { s with tube :=
      (({ t with p2h4 := d, p4 := { t.p4 with notFull := false }, h4 := { t.h4 with available := true } } : Tube).recompute s.cfg) } ∧
    exec .tubeHostRead7 s = .next (tubeAccessed 7 t.p2h4 true
      (({ t with h4 := { t.h4 with available := false }, p4 := { t.p4 with notFull := true } } : Tube).recompute s.cfg) s)

/-- O58. In every state whose ring buffer has its depth, a write index inside it and no more bytes than it holds: a
parasite write of register 1 appends the byte unless the ring is full, when it is dropped; a host read takes the
oldest byte, and from an empty ring returns the byte before the write index and takes nothing; after both, the two
flags are those of the count, the lines are recomputed, and nothing outside channel 1 and the lines changes. The bus
address tubeAccessed shows is the model's choice (log entry 16). Rules: R556, R558, R559. -/
def Obligations.TubeRing : Prop :=
  ∀ (d : Byte) (s : State), 0 < s.cfg.tubeDepth → s.tube.p2h1.length = s.cfg.tubeDepth →
    s.tube.p2h1Wr < s.cfg.tubeDepth → s.tube.p2h1Count ≤ s.cfg.tubeDepth →
    (∃ t, exec (.tubeParasiteWrite1 d) s = .next { s with tube := t } ∧
      t.ring s.cfg = (if s.tube.p2h1Count < s.cfg.tubeDepth then s.tube.ring s.cfg ++ [d] else s.tube.ring s.cfg) ∧
      t.h1.available = decide (t.ring s.cfg ≠ []) ∧
      t.p1.notFull = decide ((t.ring s.cfg).length < s.cfg.tubeDepth) ∧ t.recompute s.cfg = t ∧
      t.p2h1.length = s.cfg.tubeDepth ∧ t.p2h1Wr < s.cfg.tubeDepth ∧
      t = { s.tube with
        p2h1 := t.p2h1, p2h1Wr := t.p2h1Wr, p2h1Count := t.p2h1Count
        h1 := { s.tube.h1 with available := t.h1.available }, p1 := { s.tube.p1 with notFull := t.p1.notFull }
        hirq := t.hirq, pirq := t.pirq, pnmi := t.pnmi }) ∧
    (∃ x t, exec .tubeHostRead1 s = .next (tubeAccessed 1 x true t s) ∧
      (s.tube.ring s.cfg ≠ [] → x :: t.ring s.cfg = s.tube.ring s.cfg) ∧
      (s.tube.ring s.cfg = [] → t.ring s.cfg = [] ∧
        x = s.tube.p2h1.getD ((s.tube.p2h1Wr + s.cfg.tubeDepth - 1) % s.cfg.tubeDepth) 0) ∧
      t.h1.available = decide (t.ring s.cfg ≠ []) ∧
      t.p1.notFull = decide ((t.ring s.cfg).length < s.cfg.tubeDepth) ∧ t.recompute s.cfg = t ∧
      t = { s.tube with
        p2h1Count := t.p2h1Count
        h1 := { s.tube.h1 with available := t.h1.available }, p1 := { s.tube.p1 with notFull := t.p1.notFull }
        hirq := t.hirq, pirq := t.pirq, pnmi := t.pnmi })

/-- O59. In every state whose channel 3 directions hold at most two bytes, for both directions: a write in 2-byte mode
appends unless two are in, and flips both flags when two are in; in 1-byte mode it replaces what is there and flips
both; a read of an empty direction gives the sentinel ($E4 on the host side and $96 on the parasite side by default)
and changes nothing but the recomputed lines; a read of another takes the oldest byte, sets not_full, and clears
available when the last byte is out; nothing else changes. The bus address tubeAccessed shows and the byte kept in
tube.pdata are the model's choices (log entry 16). Rules: R565, R566, R567, R568, R569, R570, R586. -/
def Obligations.TubeChannel3 : Prop :=
  ∀ (d : Byte) (s : State), s.tube.h2p3.count ≤ 2 → s.tube.p2h3.count ≤ 2 →
    (∃ t, exec (.tubeHostWrite5 d) s = .next (tubeAccessed 5 d false t s) ∧
      t.h2p3.waiting = (if s.tube.v then (s.tube.h2p3.waiting ++ [d]).take 2 else [d]) ∧
      t.h2p3.count = t.h2p3.waiting.length ∧
      t.p3.available = (if s.tube.v ∧ s.tube.h2p3.count = 0 then s.tube.p3.available else true) ∧
      t.h3.notFull = (if s.tube.v ∧ s.tube.h2p3.count = 0 then s.tube.h3.notFull else false) ∧
      t.recompute s.cfg = t ∧
      t = { s.tube with
        h2p3 := t.h2p3, p3 := { s.tube.p3 with available := t.p3.available }
        h3 := { s.tube.h3 with notFull := t.h3.notFull }
        hirq := t.hirq, pirq := t.pirq, pnmi := t.pnmi }) ∧
    (∃ x t, exec .tubeParasiteRead5 s = .next { s with tube := { t with pdata := x } } ∧
      (s.tube.h2p3.count = 0 → x = s.cfg.tubeDummyParasite ∧ t = s.tube.recompute s.cfg) ∧
      (s.tube.h2p3.count ≠ 0 → x :: t.h2p3.waiting = s.tube.h2p3.waiting ∧
        t.h2p3.count = s.tube.h2p3.count - 1 ∧ t.h3.notFull = true ∧
        t.p3.available = (if s.tube.h2p3.count = 1 then false else s.tube.p3.available) ∧
        t.recompute s.cfg = t ∧
        t = { s.tube with
          h2p3 := t.h2p3, p3 := { s.tube.p3 with available := t.p3.available }
          h3 := { s.tube.h3 with notFull := t.h3.notFull }
          hirq := t.hirq, pirq := t.pirq, pnmi := t.pnmi })) ∧
    (∃ t, exec (.tubeParasiteWrite5 d) s = .next { s with tube := t } ∧
      t.p2h3.waiting = (if s.tube.v then (s.tube.p2h3.waiting ++ [d]).take 2 else [d]) ∧
      t.p2h3.count = t.p2h3.waiting.length ∧
      t.h3.available = (if s.tube.v ∧ s.tube.p2h3.count = 0 then s.tube.h3.available else true) ∧
      t.p3.notFull = (if s.tube.v ∧ s.tube.p2h3.count = 0 then s.tube.p3.notFull else false) ∧
      t.recompute s.cfg = t ∧
      t = { s.tube with
        p2h3 := t.p2h3, h3 := { s.tube.h3 with available := t.h3.available }
        p3 := { s.tube.p3 with notFull := t.p3.notFull }
        hirq := t.hirq, pirq := t.pirq, pnmi := t.pnmi }) ∧
    (∃ x t, exec .tubeHostRead5 s = .next (tubeAccessed 5 x true t s) ∧
      (s.tube.p2h3.count = 0 → x = s.cfg.tubeDummyHost ∧ t = s.tube.recompute s.cfg) ∧
      (s.tube.p2h3.count ≠ 0 → x :: t.p2h3.waiting = s.tube.p2h3.waiting ∧
        t.p2h3.count = s.tube.p2h3.count - 1 ∧ t.p3.notFull = true ∧
        t.h3.available = (if s.tube.p2h3.count = 1 then false else s.tube.h3.available) ∧
        t.recompute s.cfg = t ∧
        t = { s.tube with
          p2h3 := t.p2h3, h3 := { s.tube.h3 with available := t.h3.available }
          p3 := { s.tube.p3 with notFull := t.p3.notFull }
          hirq := t.hirq, pirq := t.pirq, pnmi := t.pnmi })) ∧
    Config.default.tubeDummyHost = 0xE4 ∧ Config.default.tubeDummyParasite = 0x96

/-- O60. For every parameters with a positive depth and every consistent Tube state, each register read and each
register write of each side leaves a consistent state, and so does any list of parasite accesses in one cycle; while
the parasite is held in reset such a list changes nothing (R582). Recomputing sets hirq to Q and channel 4's host
flag, pirq to I and channel 1's or J and channel 4's parasite flag, pnmi to M and the channel 3 threshold (2 when V,
else 1) or, if TUBE_NMI_ON_P2H_EMPTY, the empty return direction, and changes nothing else. The list of parasite
accesses in one cycle is the model's environment (log entries 7 and 22). Rules: R65, R551, R556, R580, R585. -/
def Obligations.TubeStaysConsistent : Prop :=
  ∀ (cfg : Config) (t : Tube), 0 < cfg.tubeDepth → t.Consistent cfg →
    (∀ r, (t.hostRead cfg r).2.Consistent cfg ∧ (t.parasiteRead cfg r).2.Consistent cfg) ∧
    (∀ r d, (t.hostWrite cfg r d).Consistent cfg ∧ (t.parasiteWrite cfg r d).Consistent cfg) ∧
    (∀ as, (Tube.parasiteRun cfg as t).Consistent cfg) ∧
    (∀ as, t.tstat.getLsbD 5 = true → Tube.parasiteRun cfg as t = t) ∧
    ∀ u : Tube, u.recompute cfg = { u with
      hirq := u.tstat.getLsbD 0 && u.h4.available
      pirq := (u.tstat.getLsbD 1 && u.p1.available) || (u.tstat.getLsbD 2 && u.p4.available)
      pnmi := u.tstat.getLsbD 3 &&
        (decide ((if u.tstat.getLsbD 4 then 2 else 1) ≤ u.h2p3.count) ||
          (cfg.tubeNmiOnP2hEmpty && u.p2h3.count == 0)) }
end

