-- ==== Sys2Proof/Laws/Memory.lean ====
section
/-! SUPPORT. The laws of memory: a read after a write, and that a write and the reset memory keep the canonical form. -/

namespace Sys2Proof.Machine

/-- An address below every listed one reads as blank. -/
theorem Memory.read_below (m : List Host.Cell) (low a : Nat) (h : Memory.wfFrom low m = true) (ha : a < low) :
    Memory.read m a = Memory.blank := by
  induction m generalizing low with
  | nil => rfl
  | cons c rest ih =>
    obtain ⟨b, w⟩ := c
    simp only [Memory.wfFrom, Bool.and_eq_true, decide_eq_true_eq] at h
    have hne : a ≠ b := by omega
    simp only [Memory.read, hne, if_false]
    exact ih (b + 1) h.2 (by omega)

/-- The canonical form from a bound on holds from any smaller bound on. -/
theorem Memory.wfFrom_mono (m : List Host.Cell) (low low' : Nat) (h : Memory.wfFrom low m = true) (hl : low' ≤ low) :
    Memory.wfFrom low' m = true := by
  cases m with
  | nil => rfl
  | cons c rest =>
    obtain ⟨b, w⟩ := c
    simp only [Memory.wfFrom, Bool.and_eq_true, decide_eq_true_eq] at h ⊢
    exact ⟨⟨⟨by omega, h.1.1.2⟩, h.1.2⟩, h.2⟩

/-- Reading after a write in canonical memory: the written byte at its address, what was there before elsewhere. -/
theorem Memory.read_write_from (m : List Host.Cell) (low a b : Nat) (v : Byte) (h : Memory.wfFrom low m = true) :
    Memory.read (Memory.write m a v) b = if b = a then v else Memory.read m b := by
  induction m generalizing low with
  | nil =>
    by_cases hv : v = Memory.blank <;> by_cases hb : b = a <;> simp [Memory.write, Memory.read, hv, hb]
  | cons c rest ih =>
    obtain ⟨k, w⟩ := c
    simp only [Memory.wfFrom, Bool.and_eq_true, decide_eq_true_eq] at h
    by_cases h1 : a < k
    · by_cases hv : v = Memory.blank
      · by_cases hb : b = a
        · subst hb
          have hne : b ≠ k := by omega
          have := Memory.read_below rest (k + 1) b h.2 (by omega)
          simp [Memory.write, h1, hv, Memory.read, hne, this]
        · simp [Memory.write, h1, hv, hb]
      · by_cases hb : b = a <;> simp [Memory.write, h1, hv, Memory.read, hb]
    · by_cases h2 : a = k
      · subst h2
        by_cases hv : v = Memory.blank
        · by_cases hb : b = a
          · subst hb
            have := Memory.read_below rest (b + 1) b h.2 (by omega)
            simp [Memory.write, hv, this]
          · simp [Memory.write, hv, Memory.read, hb]
        · by_cases hb : b = a <;> simp [Memory.write, hv, Memory.read, hb]
      · by_cases hb : b = k
        · subst hb
          have hne : ¬ b = a := fun e => h2 e.symm
          simp [Memory.write, h1, h2, Memory.read, hne]
        · simp only [Memory.write, h1, h2, if_false, Memory.read, hb]
          exact ih (k + 1) h.2

/-- Reading after a write. -/
theorem Memory.read_write (m : List Host.Cell) (a b : Nat) (v : Byte) (h : Memory.wf m = true) :
    Memory.read (Memory.write m a v) b = if b = a then v else Memory.read m b :=
  Memory.read_write_from m 0 a b v h

/-- A write keeps the canonical form from a bound that its address respects. -/
theorem Memory.write_wfFrom (m : List Host.Cell) (low a : Nat) (v : Byte) (h : Memory.wfFrom low m = true)
    (hl : low ≤ a) (ha : a < 65536) : Memory.wfFrom low (Memory.write m a v) = true := by
  induction m generalizing low with
  | nil =>
    by_cases hv : v = Memory.blank <;> simp [Memory.write, hv, Memory.wfFrom, hl, ha]
  | cons c rest ih =>
    obtain ⟨k, w⟩ := c
    have h0 := h
    simp only [Memory.wfFrom, Bool.and_eq_true, decide_eq_true_eq] at h
    by_cases h1 : a < k
    · by_cases hv : v = Memory.blank
      · simpa [Memory.write, h1, hv] using h0
      · simp only [Memory.write, h1, hv, if_true, if_false, Memory.wfFrom, Bool.and_eq_true, decide_eq_true_eq]
        exact ⟨⟨⟨hl, ha⟩, by simpa using hv⟩, ⟨⟨by omega, h.1.1.2⟩, h.1.2⟩, h.2⟩
    · by_cases h2 : a = k
      · subst h2
        by_cases hv : v = Memory.blank
        · simp only [Memory.write, Nat.lt_irrefl, if_true, if_false, hv]
          exact Memory.wfFrom_mono rest (a + 1) low h.2 (by omega)
        · simp only [Memory.write, Nat.lt_irrefl, if_true, if_false, hv, Memory.wfFrom, Bool.and_eq_true, decide_eq_true_eq]
          exact ⟨⟨⟨hl, ha⟩, by simpa using hv⟩, h.2⟩
      · simp only [Memory.write, h1, h2, if_false, Memory.wfFrom, Bool.and_eq_true, decide_eq_true_eq]
        exact ⟨h.1, ih (k + 1) h.2 (by omega)⟩

/-- A write keeps the canonical form. -/
theorem Memory.write_wf (m : List Host.Cell) (a : Nat) (v : Byte) (h : Memory.wf m = true) (ha : a < 65536) :
    Memory.wf (Memory.write m a v) = true :=
  Memory.write_wfFrom m 0 a v h (Nat.zero_le a) ha

/-- A 16-bit address is inside the address space. -/
theorem Memory.address_lt (a : Word) : a.toNat < 65536 := a.isLt

/-- The reset memory is canonical. -/
theorem Memory.reset_wf : Memory.wf State.reset.mem = true := rfl

end Sys2Proof.Machine
end

