-- ==== Sys2Proof/Laws/State.lean ====
section
/-! SUPPORT. One lemma per view per register update, true by `rfl`, so that no later proof unfolds a record update. -/

namespace Sys2Proof.Machine

/-! ### setA -/

@[simp] theorem State.setA_regs (s : State) (v : Byte) : (s.setA v).regs = { s.regs with a := v } := rfl
@[simp] theorem State.setA_cpu (s : State) (v : Byte) : (s.setA v).cpu = { s.cpu with a := v } := rfl
@[simp] theorem State.setA_world (s : State) (v : Byte) : (s.setA v).world = s.world := rfl
@[simp] theorem State.setA_mem (s : State) (v : Byte) : (s.setA v).mem = s.mem := rfl
@[simp] theorem State.setA_bus (s : State) (v : Byte) : (s.setA v).bus = s.bus := rfl
@[simp] theorem State.setA_cfg (s : State) (v : Byte) : (s.setA v).cfg = s.cfg := rfl
@[simp] theorem State.setA_peek (s : State) (v : Byte) (a : Word) : (s.setA v).peek a = s.peek a := rfl

/-! ### setX -/

@[simp] theorem State.setX_regs (s : State) (v : Byte) : (s.setX v).regs = { s.regs with x := v } := rfl
@[simp] theorem State.setX_cpu (s : State) (v : Byte) : (s.setX v).cpu = { s.cpu with x := v } := rfl
@[simp] theorem State.setX_world (s : State) (v : Byte) : (s.setX v).world = s.world := rfl
@[simp] theorem State.setX_mem (s : State) (v : Byte) : (s.setX v).mem = s.mem := rfl
@[simp] theorem State.setX_bus (s : State) (v : Byte) : (s.setX v).bus = s.bus := rfl
@[simp] theorem State.setX_cfg (s : State) (v : Byte) : (s.setX v).cfg = s.cfg := rfl
@[simp] theorem State.setX_peek (s : State) (v : Byte) (a : Word) : (s.setX v).peek a = s.peek a := rfl

/-! ### setY -/

@[simp] theorem State.setY_regs (s : State) (v : Byte) : (s.setY v).regs = { s.regs with y := v } := rfl
@[simp] theorem State.setY_cpu (s : State) (v : Byte) : (s.setY v).cpu = { s.cpu with y := v } := rfl
@[simp] theorem State.setY_world (s : State) (v : Byte) : (s.setY v).world = s.world := rfl
@[simp] theorem State.setY_mem (s : State) (v : Byte) : (s.setY v).mem = s.mem := rfl
@[simp] theorem State.setY_bus (s : State) (v : Byte) : (s.setY v).bus = s.bus := rfl
@[simp] theorem State.setY_cfg (s : State) (v : Byte) : (s.setY v).cfg = s.cfg := rfl
@[simp] theorem State.setY_peek (s : State) (v : Byte) (a : Word) : (s.setY v).peek a = s.peek a := rfl

/-! ### setS -/

@[simp] theorem State.setS_regs (s : State) (v : Byte) : (s.setS v).regs = { s.regs with s := v } := rfl
@[simp] theorem State.setS_cpu (s : State) (v : Byte) : (s.setS v).cpu = { s.cpu with s := v } := rfl
@[simp] theorem State.setS_world (s : State) (v : Byte) : (s.setS v).world = s.world := rfl
@[simp] theorem State.setS_mem (s : State) (v : Byte) : (s.setS v).mem = s.mem := rfl
@[simp] theorem State.setS_bus (s : State) (v : Byte) : (s.setS v).bus = s.bus := rfl
@[simp] theorem State.setS_cfg (s : State) (v : Byte) : (s.setS v).cfg = s.cfg := rfl
@[simp] theorem State.setS_peek (s : State) (v : Byte) (a : Word) : (s.setS v).peek a = s.peek a := rfl

/-! ### setPc -/

@[simp] theorem State.setPc_regs (s : State) (v : Word) : (s.setPc v).regs = { s.regs with pc := v } := rfl
@[simp] theorem State.setPc_cpu (s : State) (v : Word) : (s.setPc v).cpu = { s.cpu with pc := v } := rfl
@[simp] theorem State.setPc_world (s : State) (v : Word) : (s.setPc v).world = s.world := rfl
@[simp] theorem State.setPc_mem (s : State) (v : Word) : (s.setPc v).mem = s.mem := rfl
@[simp] theorem State.setPc_bus (s : State) (v : Word) : (s.setPc v).bus = s.bus := rfl
@[simp] theorem State.setPc_cfg (s : State) (v : Word) : (s.setPc v).cfg = s.cfg := rfl
@[simp] theorem State.setPc_peek (s : State) (v : Word) (a : Word) : (s.setPc v).peek a = s.peek a := rfl

/-! ### setP -/

@[simp] theorem State.setP_regs (s : State) (v : Flags) : (s.setP v).regs = { s.regs with p := v } := rfl
@[simp] theorem State.setP_cpu (s : State) (v : Flags) : (s.setP v).cpu = { s.cpu with p := v } := rfl
@[simp] theorem State.setP_world (s : State) (v : Flags) : (s.setP v).world = s.world := rfl
@[simp] theorem State.setP_mem (s : State) (v : Flags) : (s.setP v).mem = s.mem := rfl
@[simp] theorem State.setP_bus (s : State) (v : Flags) : (s.setP v).bus = s.bus := rfl
@[simp] theorem State.setP_cfg (s : State) (v : Flags) : (s.setP v).cfg = s.cfg := rfl
@[simp] theorem State.setP_peek (s : State) (v : Flags) (a : Word) : (s.setP v).peek a = s.peek a := rfl

/-! ### setIr -/

@[simp] theorem State.setIr_regs (s : State) (v : Byte) : (s.setIr v).regs = { s.regs with ir := v } := rfl
@[simp] theorem State.setIr_cpu (s : State) (v : Byte) : (s.setIr v).cpu = { s.cpu with ir := v } := rfl
@[simp] theorem State.setIr_world (s : State) (v : Byte) : (s.setIr v).world = s.world := rfl
@[simp] theorem State.setIr_mem (s : State) (v : Byte) : (s.setIr v).mem = s.mem := rfl
@[simp] theorem State.setIr_bus (s : State) (v : Byte) : (s.setIr v).bus = s.bus := rfl
@[simp] theorem State.setIr_cfg (s : State) (v : Byte) : (s.setIr v).cfg = s.cfg := rfl
@[simp] theorem State.setIr_peek (s : State) (v : Byte) (a : Word) : (s.setIr v).peek a = s.peek a := rfl

/-! ### setAd -/

@[simp] theorem State.setAd_cpu (s : State) (w : Word) (f : Bool) : (s.setAd w f).cpu = { s.cpu with ad := w, fix := f } := rfl
@[simp] theorem State.setAd_regs (s : State) (w : Word) (f : Bool) : (s.setAd w f).regs = s.regs := rfl
@[simp] theorem State.setAd_world (s : State) (w : Word) (f : Bool) : (s.setAd w f).world = s.world := rfl
@[simp] theorem State.setAd_mem (s : State) (w : Word) (f : Bool) : (s.setAd w f).mem = s.mem := rfl
@[simp] theorem State.setAd_bus (s : State) (w : Word) (f : Bool) : (s.setAd w f).bus = s.bus := rfl
@[simp] theorem State.setAd_cfg (s : State) (w : Word) (f : Bool) : (s.setAd w f).cfg = s.cfg := rfl
@[simp] theorem State.setAd_peek (s : State) (w : Word) (f : Bool) (a : Word) : (s.setAd w f).peek a = s.peek a := rfl

/-! ### setPtr -/

@[simp] theorem State.setPtr_cpu (s : State) (v : Byte) : (s.setPtr v).cpu = { s.cpu with ptr := v } := rfl
@[simp] theorem State.setPtr_regs (s : State) (v : Byte) : (s.setPtr v).regs = s.regs := rfl
@[simp] theorem State.setPtr_world (s : State) (v : Byte) : (s.setPtr v).world = s.world := rfl
@[simp] theorem State.setPtr_mem (s : State) (v : Byte) : (s.setPtr v).mem = s.mem := rfl
@[simp] theorem State.setPtr_bus (s : State) (v : Byte) : (s.setPtr v).bus = s.bus := rfl
@[simp] theorem State.setPtr_cfg (s : State) (v : Byte) : (s.setPtr v).cfg = s.cfg := rfl
@[simp] theorem State.setPtr_peek (s : State) (v : Byte) (a : Word) : (s.setPtr v).peek a = s.peek a := rfl

/-! ### setOpnd -/

@[simp] theorem State.setOpnd_cpu (s : State) (v : Byte) : (s.setOpnd v).cpu = { s.cpu with opnd := v } := rfl
@[simp] theorem State.setOpnd_regs (s : State) (v : Byte) : (s.setOpnd v).regs = s.regs := rfl
@[simp] theorem State.setOpnd_world (s : State) (v : Byte) : (s.setOpnd v).world = s.world := rfl
@[simp] theorem State.setOpnd_mem (s : State) (v : Byte) : (s.setOpnd v).mem = s.mem := rfl
@[simp] theorem State.setOpnd_bus (s : State) (v : Byte) : (s.setOpnd v).bus = s.bus := rfl
@[simp] theorem State.setOpnd_cfg (s : State) (v : Byte) : (s.setOpnd v).cfg = s.cfg := rfl
@[simp] theorem State.setOpnd_peek (s : State) (v : Byte) (a : Word) : (s.setOpnd v).peek a = s.peek a := rfl

/-! ### setSeq -/

@[simp] theorem State.setSeq_cpu (s : State) (q : SeqKind) : (s.setSeq q).cpu = { s.cpu with seq := q } := rfl
@[simp] theorem State.setSeq_regs (s : State) (q : SeqKind) : (s.setSeq q).regs = s.regs := rfl
@[simp] theorem State.setSeq_world (s : State) (q : SeqKind) : (s.setSeq q).world = s.world := rfl
@[simp] theorem State.setSeq_mem (s : State) (q : SeqKind) : (s.setSeq q).mem = s.mem := rfl
@[simp] theorem State.setSeq_bus (s : State) (q : SeqKind) : (s.setSeq q).bus = s.bus := rfl
@[simp] theorem State.setSeq_cfg (s : State) (q : SeqKind) : (s.setSeq q).cfg = s.cfg := rfl
@[simp] theorem State.setSeq_peek (s : State) (q : SeqKind) (a : Word) : (s.setSeq q).peek a = s.peek a := rfl

/-! ### boundary -/

@[simp] theorem State.boundary_cpu (s : State) : s.boundary.cpu = { s.cpu with seq := .instr, tcycle := 1, fix := false } := rfl
@[simp] theorem State.boundary_regs (s : State) : s.boundary.regs = s.regs := rfl
@[simp] theorem State.boundary_world (s : State) : s.boundary.world = s.world := rfl
@[simp] theorem State.boundary_mem (s : State) : s.boundary.mem = s.mem := rfl
@[simp] theorem State.boundary_bus (s : State) : s.boundary.bus = s.bus := rfl
@[simp] theorem State.boundary_cfg (s : State) : s.boundary.cfg = s.cfg := rfl
@[simp] theorem State.boundary_peek (s : State) (a : Word) : s.boundary.peek a = s.peek a := rfl

/-! ### incPc -/

@[simp] theorem State.incPc_regs (s : State) : s.incPc.regs = { s.regs with pc := s.regs.pc + 1 } := rfl
@[simp] theorem State.incPc_cpu (s : State) : s.incPc.cpu = { s.cpu with pc := s.cpu.pc + 1 } := rfl
@[simp] theorem State.incPc_world (s : State) : s.incPc.world = s.world := rfl
@[simp] theorem State.incPc_mem (s : State) : s.incPc.mem = s.mem := rfl
@[simp] theorem State.incPc_bus (s : State) : s.incPc.bus = s.bus := rfl
@[simp] theorem State.incPc_cfg (s : State) : s.incPc.cfg = s.cfg := rfl
@[simp] theorem State.incPc_peek (s : State) (a : Word) : s.incPc.peek a = s.peek a := rfl

/-! ### latch -/

@[simp] theorem State.latch_regs (s : State) (a : Word) (v : Byte) (r : Bool) : (s.latch a v r).regs = s.regs := rfl
@[simp] theorem State.latch_world (s : State) (a : Word) (v : Byte) (r : Bool) : (s.latch a v r).world = s.world := rfl
@[simp] theorem State.latch_mem (s : State) (a : Word) (v : Byte) (r : Bool) : (s.latch a v r).mem = s.mem := rfl
@[simp] theorem State.latch_cfg (s : State) (a : Word) (v : Byte) (r : Bool) : (s.latch a v r).cfg = s.cfg := rfl
@[simp] theorem State.latch_bus (s : State) (a : Word) (v : Byte) (r : Bool) :
    (s.latch a v r).bus = s.bus ++ [⟨a, v, r⟩] := rfl

/-! ### regs -/

@[simp] theorem State.regs_a (s : State) : s.regs.a = s.cpu.a := rfl
@[simp] theorem State.regs_x (s : State) : s.regs.x = s.cpu.x := rfl
@[simp] theorem State.regs_y (s : State) : s.regs.y = s.cpu.y := rfl
@[simp] theorem State.regs_s (s : State) : s.regs.s = s.cpu.s := rfl
@[simp] theorem State.regs_pc (s : State) : s.regs.pc = s.cpu.pc := rfl
@[simp] theorem State.regs_p (s : State) : s.regs.p = s.cpu.p := rfl
@[simp] theorem State.regs_ir (s : State) : s.regs.ir = s.cpu.ir := rfl

/-- The boundary holds after `State.boundary`. -/
theorem State.boundary_atBoundary (s : State) : AtBoundary s.boundary := ⟨rfl, rfl, rfl⟩

/-- The parameters are part of the world. -/
theorem State.world_cfg (s : State) : s.world.cfg = s.cfg := rfl

/-! ### Parameters with one value (R6) -/

/-- Whatever the parameters, `XLEN` is the width of `Byte`. -/
@[simp] theorem Config.xlen_bits (cfg : Config) : cfg.xlen.bits = 8 := rfl
/-- Whatever the parameters, `ALEN` is the width of `Word`. -/
@[simp] theorem Config.alen_bits (cfg : Config) : cfg.alen.bits = 16 := rfl
/-- Whatever the parameters, the VIAs there are are the two instances of the state. -/
@[simp] theorem Config.viaCount_ids (cfg : Config) : cfg.viaCount.ids = [.system, .user] := rfl

/-! ### C2 as an input (R404) -/

@[simp] theorem Port.followC2_input (q : Port) : q.followC2 false = { q with c2 := q.extC2 } := rfl
@[simp] theorem Port.followC2_output (q : Port) : q.followC2 true = q := rfl
@[simp] theorem Port.followC2_drive (q : Port) (o : Bool) : (q.followC2 o).drive = q.drive := rfl

/-! ### The drive handler (R484) -/

/-- The sector details answered are those of the sector at the index, which has the density asked for. -/
theorem Drive.find_some (d : Drive) (index : Byte) (density : Bool) (q : Sector) (h : d.find index density = some q) :
    d.sectorAt index = some q ∧ q.density = density := by
  simpa [Drive.find] using h

end Sys2Proof.Machine
end

