-- ==== Sys2Proof/Laws/Cycle.lean ====
section
/-! SUPPORT. What one bus cycle does, said once: no cycle touches the CPU's registers, a read cycle leaves memory alone, a
cycle at a plain address is an idle cycle for the devices, and a write that is accepted completes. -/

namespace Sys2Proof.Machine

/-! ### The phases of a system cycle -/

/-- No agent's step touches the CPU's registers, memory, the record of bus cycles or the parameters. -/
theorem State.runPhase_frame (p : AgentPhase) (s : State) :
    (s.runPhase p).regs = s.regs ∧ (s.runPhase p).mem = s.mem ∧ (s.runPhase p).bus = s.bus ∧ (s.runPhase p).cfg = s.cfg ∧
      (s.runPhase p).freeReads = s.freeReads := by
  cases p <;> exact ⟨rfl, rfl, rfl, rfl, rfl⟩

/-- Nor does it touch the Tube or the script. -/
theorem State.runPhase_tube (p : AgentPhase) (s : State) :
    (s.runPhase p).tube = s.tube ∧ (s.runPhase p).script = s.script := by
  cases p <;> exact ⟨rfl, rfl⟩

/-- Nor do several, in any order. -/
theorem State.runPhases_frame (ps : List AgentPhase) (s : State) :
    (State.runPhases ps s).regs = s.regs ∧ (State.runPhases ps s).mem = s.mem ∧ (State.runPhases ps s).bus = s.bus ∧
      (State.runPhases ps s).cfg = s.cfg ∧ (State.runPhases ps s).freeReads = s.freeReads := by
  induction ps generalizing s with
  | nil => exact ⟨rfl, rfl, rfl, rfl, rfl⟩
  | cons p rest ih =>
    obtain ⟨h1, h2, h3, h4, h5⟩ := ih (s.runPhase p)
    obtain ⟨k1, k2, k3, k4, k5⟩ := State.runPhase_frame p s
    exact ⟨h1.trans k1, h2.trans k2, h3.trans k3, h4.trans k4, h5.trans k5⟩

/-- Several leave the Tube and the script alone too. -/
theorem State.runPhases_tube (ps : List AgentPhase) (s : State) :
    (State.runPhases ps s).tube = s.tube ∧ (State.runPhases ps s).script = s.script := by
  induction ps generalizing s with
  | nil => exact ⟨rfl, rfl⟩
  | cons p rest ih => exact ⟨(ih _).1.trans (s.runPhase_tube p).1, (ih _).2.trans (s.runPhase_tube p).2⟩

/-- Two runs of parasite accesses are one. -/
theorem Tube.parasiteRun_append (cfg : Config) (as bs : List ParasiteAccess) (t : Tube) :
    Tube.parasiteRun cfg (as ++ bs) t = Tube.parasiteRun cfg bs (Tube.parasiteRun cfg as t) := by
  induction as generalizing t with
  | nil => rfl
  | cons a rest ih => exact ih _

/-- Taking the environment's input touches none of them either. -/
theorem State.takeInput_frame (s : State) :
    s.takeInput.applyLevels.regs = s.regs ∧ s.takeInput.applyLevels.mem = s.mem ∧ s.takeInput.applyLevels.bus = s.bus ∧
      s.takeInput.applyLevels.cfg = s.cfg ∧ s.takeInput.applyLevels.freeReads = s.freeReads := by
  unfold State.takeInput
  cases s.script <;> exact ⟨rfl, rfl, rfl, rfl, rfl⟩

/-- Nor do the parasite's accesses before the CPU's. -/
theorem State.parasiteBefore_frame (s : State) :
    s.parasiteBefore.regs = s.regs ∧ s.parasiteBefore.mem = s.mem ∧ s.parasiteBefore.bus = s.bus ∧
      s.parasiteBefore.cfg = s.cfg ∧ s.parasiteBefore.freeReads = s.freeReads := by
  unfold State.parasiteBefore
  cases s.script <;> exact ⟨rfl, rfl, rfl, rfl, rfl⟩

/-- Nor do those after it. -/
theorem State.parasiteAfter_frame (s : State) :
    s.parasiteAfter.regs = s.regs ∧ s.parasiteAfter.mem = s.mem ∧ s.parasiteAfter.bus = s.bus ∧
      s.parasiteAfter.cfg = s.cfg := by
  unfold State.parasiteAfter
  cases s.script <;> exact ⟨rfl, rfl, rfl, rfl⟩

/-- What comes before the agents' steps touches none of them. -/
theorem State.inputs_frame (s : State) :
    s.takeInput.applyLevels.parasiteBefore.regs = s.regs ∧ s.takeInput.applyLevels.parasiteBefore.mem = s.mem ∧
      s.takeInput.applyLevels.parasiteBefore.bus = s.bus ∧ s.takeInput.applyLevels.parasiteBefore.cfg = s.cfg ∧
      s.takeInput.applyLevels.parasiteBefore.freeReads = s.freeReads := by
  obtain ⟨h1, h2, h3, h4, h5⟩ := s.takeInput.applyLevels.parasiteBefore_frame
  obtain ⟨k1, k2, k3, k4, k5⟩ := s.takeInput_frame
  exact ⟨h1.trans k1, h2.trans k2, h3.trans k3, h4.trans k4, h5.trans k5⟩

@[simp] theorem State.beginCycle_regs (s : State) : s.beginCycle.regs = s.regs :=
  (State.runPhases_frame _ _).1.trans s.inputs_frame.1

@[simp] theorem State.beginCycle_mem (s : State) : s.beginCycle.mem = s.mem :=
  (State.runPhases_frame _ _).2.1.trans s.inputs_frame.2.1

@[simp] theorem State.beginCycle_bus (s : State) : s.beginCycle.bus = s.bus :=
  (State.runPhases_frame _ _).2.2.1.trans s.inputs_frame.2.2.1

@[simp] theorem State.beginCycle_cfg (s : State) : s.beginCycle.cfg = s.cfg :=
  (State.runPhases_frame _ _).2.2.2.1.trans s.inputs_frame.2.2.2.1

@[simp] theorem State.beginCycle_freeReads (s : State) : s.beginCycle.freeReads = s.freeReads :=
  (State.runPhases_frame _ _).2.2.2.2.trans s.inputs_frame.2.2.2.2

@[simp] theorem State.endCycle_regs (s : State) : s.endCycle.regs = s.regs :=
  (State.runPhases_frame s.cfg.agentOrder.after s.parasiteAfter).1.trans s.parasiteAfter_frame.1

@[simp] theorem State.endCycle_mem (s : State) : s.endCycle.mem = s.mem :=
  (State.runPhases_frame s.cfg.agentOrder.after s.parasiteAfter).2.1.trans s.parasiteAfter_frame.2.1

@[simp] theorem State.endCycle_bus (s : State) : s.endCycle.bus = s.bus :=
  (State.runPhases_frame s.cfg.agentOrder.after s.parasiteAfter).2.2.1.trans s.parasiteAfter_frame.2.2.1

@[simp] theorem State.endCycle_cfg (s : State) : s.endCycle.cfg = s.cfg :=
  (State.runPhases_frame s.cfg.agentOrder.after s.parasiteAfter).2.2.2.1.trans s.parasiteAfter_frame.2.2.2

/-- Before the CPU's access the Tube takes the parasite's accesses that come first, and nothing else; the script stands. -/
theorem State.beginCycle_tube (s : State) :
    s.beginCycle.tube = (match s.script with | [] => s.tube | e :: _ => Tube.parasiteRun s.cfg e.parasiteBefore s.tube) ∧
      s.beginCycle.script = s.script := by
  obtain ⟨h1, h2⟩ := State.runPhases_tube s.cfg.agentOrder.before s.takeInput.applyLevels.parasiteBefore
  refine ⟨h1.trans ?_, h2.trans ?_⟩ <;>
    cases h : s.script <;> simp [State.takeInput, State.applyLevels, State.parasiteBefore, State.parasiteRun, h]

/-- After the CPU's access the Tube takes the rest of the parasite's accesses, and nothing else; the script moves on. -/
theorem State.endCycle_tube (s : State) :
    s.endCycle.tube = (match s.script with | [] => s.tube | e :: _ => Tube.parasiteRun s.cfg e.parasiteAfter s.tube) ∧
      s.endCycle.script = s.script.tail := by
  obtain ⟨h1, h2⟩ := State.runPhases_tube s.cfg.agentOrder.after s.parasiteAfter
  refine ⟨h1.trans ?_, h2.trans ?_⟩ <;> cases h : s.script <;> simp [State.parasiteAfter, State.parasiteRun, h]

/-- With the order of R114 a cycle's first half is the inputs and the leading edges. -/
theorem State.beginCycle_ordered (s : State) (h : s.cfg.agentOrder = {}) :
    s.beginCycle = s.takeInput.applyLevels.parasiteBefore.leadingEdges := by
  unfold State.beginCycle
  rw [h]
  rfl

/-- With the order of R114 a cycle ends with the trailing edges, the FDC's updates and the lines. -/
theorem State.endCycle_ordered (s : State) (h : s.cfg.agentOrder = {}) :
    s.endCycle = s.parasiteAfter.trailingEdges.fdcUpdates.updateLines.countCycle := by
  unfold State.endCycle
  rw [h]
  rfl

/-- What an agent's step does to the world depends on the world alone. -/
theorem State.runPhase_world_congr (p : AgentPhase) (s t : State) (h : s.world = t.world) :
    (s.runPhase p).world = (t.runPhase p).world := by
  cases s; cases t
  simp only [State.world, World.mk.injEq] at h
  obtain ⟨rfl, rfl, rfl, rfl, rfl, rfl, rfl, rfl, rfl, h1, h2, h3, h4⟩ := h
  cases p <;> simp [State.runPhase, State.leadingEdges, State.trailingEdges, State.fdcUpdates, State.world, h1, h2, h3, h4]

/-- So does what several do. -/
theorem State.runPhases_world_congr (ps : List AgentPhase) (s t : State) (h : s.world = t.world) :
    (State.runPhases ps s).world = (State.runPhases ps t).world := by
  induction ps generalizing s t with
  | nil => exact h
  | cons p rest ih => exact ih _ _ (State.runPhase_world_congr p s t h)

/-- What the parasite's accesses before the CPU's do to the world depends on the world alone. -/
theorem State.parasiteBefore_world_congr (s t : State) (h : s.world = t.world) :
    s.parasiteBefore.world = t.parasiteBefore.world := by
  cases s; cases t
  simp only [State.world, World.mk.injEq] at h
  obtain ⟨rfl, rfl, rfl, rfl, rfl, rfl, rfl, rfl, rfl, h1, h2, h3, h4⟩ := h
  simp only [State.parasiteBefore]
  split <;> simp [State.parasiteRun, State.world, h1, h2, h3, h4]

/-- What passes for the world in the first half of a cycle depends on the world alone. -/
theorem State.beginCycle_world_congr (s t : State) (h : s.world = t.world) : s.beginCycle.world = t.beginCycle.world := by
  have hc : s.cfg = t.cfg := congrArg World.cfg h
  unfold State.beginCycle
  rw [hc]
  refine State.runPhases_world_congr _ _ _ (State.parasiteBefore_world_congr _ _ ?_)
  cases s; cases t
  simp only [State.world, World.mk.injEq] at h
  obtain ⟨rfl, rfl, rfl, rfl, rfl, rfl, rfl, rfl, rfl, h1, h2, h3, h4⟩ := h
  simp only [State.takeInput]
  split <;> simp [State.applyLevels, State.world, h1, h2, h3, h4]

/-- What recomputing the lines does to the world depends on the world alone. -/
theorem State.updateLines_world_congr (s t : State) (h : s.world = t.world) :
    s.updateLines.countCycle.world = t.updateLines.countCycle.world := by
  cases s; cases t
  simp only [State.world, World.mk.injEq] at h
  obtain ⟨rfl, rfl, rfl, rfl, rfl, rfl, rfl, rfl, rfl, h1, h2, h3, h4⟩ := h
  simp [State.updateLines, State.countCycle, State.world, State.irqSources, State.nmiSources, h2, h3, h4]

/-- What passes for the world in the second half of a cycle depends on the world alone. -/
theorem State.endCycle_world_congr (s t : State) (h : s.world = t.world) : s.endCycle.world = t.endCycle.world := by
  have hc : s.cfg = t.cfg := congrArg World.cfg h
  unfold State.endCycle
  rw [hc]
  refine State.updateLines_world_congr _ _ (State.runPhases_world_congr _ _ _ ?_)
  cases s; cases t
  simp only [State.world, World.mk.injEq] at h
  obtain ⟨rfl, rfl, rfl, rfl, rfl, rfl, rfl, rfl, rfl, h1, h2, h3, h4⟩ := h
  simp only [State.parasiteAfter]
  split <;> simp [State.parasiteRun, State.world, h1, h2, h3, h4]

/-- An idle cycle's world depends on the world alone. -/
theorem State.idleCycle_world_congr (s t : State) (h : s.world = t.world) : s.idleCycle.world = t.idleCycle.world :=
  State.endCycle_world_congr _ _ (State.beginCycle_world_congr _ _ h)

/-- So does that of many. -/
theorem State.idleCycles_world_congr (n : Nat) (s t : State) (h : s.world = t.world) :
    (State.idleCycles n s).world = (State.idleCycles n t).world := by
  induction n generalizing s t with
  | zero => exact h
  | succ n ih => exact ih _ _ (State.idleCycle_world_congr _ _ h)

/-- Idle cycles add up. -/
theorem State.idleCycles_add (m n : Nat) (s : State) :
    State.idleCycles (m + n) s = State.idleCycles n (State.idleCycles m s) := by
  induction m generalizing s with
  | zero => simp [State.idleCycles]
  | succ m ih => rw [Nat.succ_add]; exact ih _

/-! ### The access -/

@[simp] theorem busRead_regs (a : Word) (s : State) : (busRead a s).2.regs = s.regs := by
  unfold busRead busValue
  cases target s.cfg a <;> rfl

@[simp] theorem busRead_mem (a : Word) (s : State) : (busRead a s).2.mem = s.mem := by
  unfold busRead busValue
  cases target s.cfg a <;> rfl

@[simp] theorem busRead_cfg (a : Word) (s : State) : (busRead a s).2.cfg = s.cfg := by
  unfold busRead busValue
  cases target s.cfg a <;> rfl

@[simp] theorem busRead_bus (a : Word) (s : State) : (busRead a s).2.bus = s.bus ++ [⟨a, (busRead a s).1, true⟩] := by
  unfold busRead busValue
  cases target s.cfg a <;> rfl

/-- At a plain address the access delivers the memory byte and leaves the world alone. -/
theorem busRead_plain (a : Word) (s : State) (h : Plain s.cfg a) :
    (busRead a s).1 = s.peek a ∧ (busRead a s).2.world = s.world := by
  unfold busRead busValue
  obtain h | h := h <;> simp [h]

/-! ### Read cycles -/

@[simp] theorem readCycle_regs (a : Word) (s : State) : (readCycle a s).2.regs = s.regs := by simp [readCycle]
@[simp] theorem readCycle_mem (a : Word) (s : State) : (readCycle a s).2.mem = s.mem := by simp [readCycle]
@[simp] theorem readCycle_cfg (a : Word) (s : State) : (readCycle a s).2.cfg = s.cfg := by simp [readCycle]
@[simp] theorem readCycle_bus (a : Word) (s : State) :
    (readCycle a s).2.bus = s.bus ++ [⟨a, (readCycle a s).1, true⟩] := by simp [readCycle]
@[simp] theorem readCycle_peek (a b : Word) (s : State) : (readCycle a s).2.peek b = s.peek b := by simp [State.peek]

@[simp] theorem discardCycle_regs (a : Word) (s : State) : (discardCycle a s).regs = s.regs := readCycle_regs a s
@[simp] theorem discardCycle_mem (a : Word) (s : State) : (discardCycle a s).mem = s.mem := readCycle_mem a s
@[simp] theorem discardCycle_cfg (a : Word) (s : State) : (discardCycle a s).cfg = s.cfg := readCycle_cfg a s
@[simp] theorem discardCycle_peek (a b : Word) (s : State) : (discardCycle a s).peek b = s.peek b := readCycle_peek a b s

/-- A read cycle at a plain address: the memory byte, and an idle cycle for the world. -/
theorem readCycle_plain (a : Word) (s : State) (h : Plain s.cfg a) :
    (readCycle a s).1 = s.peek a ∧ (readCycle a s).2.world = s.idleCycle.world := by
  have hb := busRead_plain a s.beginCycle (by simpa using h)
  refine ⟨by simpa [readCycle, State.peek] using hb.1, ?_⟩
  exact State.endCycle_world_congr _ _ hb.2

/-- The registers of the CPU read off the register view. -/
theorem cpu_of_regs (s t : State) (h : s.regs = t.regs) :
    s.cpu.a = t.cpu.a ∧ s.cpu.x = t.cpu.x ∧ s.cpu.y = t.cpu.y ∧ s.cpu.s = t.cpu.s ∧ s.cpu.pc = t.cpu.pc ∧
      s.cpu.p = t.cpu.p ∧ s.cpu.ir = t.cpu.ir := by
  simpa [State.regs] using h

@[simp] theorem readCycle_a (a : Word) (s : State) : (readCycle a s).2.cpu.a = s.cpu.a :=
  (cpu_of_regs _ _ (readCycle_regs a s)).1
@[simp] theorem readCycle_x (a : Word) (s : State) : (readCycle a s).2.cpu.x = s.cpu.x :=
  (cpu_of_regs _ _ (readCycle_regs a s)).2.1
@[simp] theorem readCycle_y (a : Word) (s : State) : (readCycle a s).2.cpu.y = s.cpu.y :=
  (cpu_of_regs _ _ (readCycle_regs a s)).2.2.1
@[simp] theorem readCycle_s (a : Word) (s : State) : (readCycle a s).2.cpu.s = s.cpu.s :=
  (cpu_of_regs _ _ (readCycle_regs a s)).2.2.2.1
@[simp] theorem readCycle_pc (a : Word) (s : State) : (readCycle a s).2.cpu.pc = s.cpu.pc :=
  (cpu_of_regs _ _ (readCycle_regs a s)).2.2.2.2.1
@[simp] theorem readCycle_p (a : Word) (s : State) : (readCycle a s).2.cpu.p = s.cpu.p :=
  (cpu_of_regs _ _ (readCycle_regs a s)).2.2.2.2.2.1

@[simp] theorem discardCycle_a (a : Word) (s : State) : (discardCycle a s).cpu.a = s.cpu.a := readCycle_a a s
@[simp] theorem discardCycle_x (a : Word) (s : State) : (discardCycle a s).cpu.x = s.cpu.x := readCycle_x a s
@[simp] theorem discardCycle_y (a : Word) (s : State) : (discardCycle a s).cpu.y = s.cpu.y := readCycle_y a s
@[simp] theorem discardCycle_s (a : Word) (s : State) : (discardCycle a s).cpu.s = s.cpu.s := readCycle_s a s
@[simp] theorem discardCycle_pc (a : Word) (s : State) : (discardCycle a s).cpu.pc = s.cpu.pc := readCycle_pc a s
@[simp] theorem discardCycle_p (a : Word) (s : State) : (discardCycle a s).cpu.p = s.cpu.p := readCycle_p a s

/-! ### Write cycles -/

/-- The controller takes every command byte below $E0. -/
theorem Fdc.writeCommand_ok (cfg : Config) (v : Byte) (f : Fdc) (h : v.toNat < 0xE0) :
    ∃ g, f.writeCommand cfg v = .ok g := by
  have hn : (v.extractLsb' 4 4).toNat < 14 := by
    simp only [BitVec.extractLsb'_toNat, Nat.shiftRight_eq_div_pow]
    omega
  unfold Fdc.writeCommand
  generalize (v.extractLsb' 4 4).toNat = n at hn ⊢
  have hc : n = 0 ∨ n = 1 ∨ n = 2 ∨ n = 3 ∨ n = 4 ∨ n = 5 ∨ n = 6 ∨ n = 7 ∨ n = 8 ∨ n = 9 ∨ n = 10 ∨ n = 11 ∨ n = 12 ∨
      n = 13 := by omega
  rcases hc with rfl | rfl | rfl | rfl | rfl | rfl | rfl | rfl | rfl | rfl | rfl | rfl | rfl | rfl <;> exact ⟨_, rfl⟩

/-- An accepted store completes and touches memory only, and that only in RAM. -/
theorem busStore_ok (a : Word) (v : Byte) (s : State) (h : Accepts s.cfg a v = true) :
    ∃ t, busStore a v s = .ok t ∧ t.regs = s.regs ∧ t.cfg = s.cfg ∧ t.bus = s.bus ∧
      t.mem = (if target s.cfg a = .ram then Memory.write s.mem a.toNat v else s.mem) := by
  unfold busStore
  cases ht : target s.cfg a with
  | fdc =>
    have : ∃ f, s.fdc.regWrite s.cfg (fdcReg a) v = .ok f := by
      unfold Fdc.regWrite
      split <;> try exact ⟨_, rfl⟩
      rename_i h0
      refine Fdc.writeCommand_ok _ _ _ ?_
      have hz : fdcReg a = 0 := BitVec.eq_of_toNat_eq (by simpa using h0)
      simp [Accepts, ht, hz] at h
      exact h
    obtain ⟨f, hf⟩ := this
    exact ⟨{ s with fdc := f }, by simp [hf], rfl, rfl, rfl, by simp⟩
  | ram => exact ⟨_, rfl, rfl, rfl, rfl, by simp⟩
  | sysVia => exact ⟨_, rfl, rfl, rfl, rfl, by simp⟩
  | usrVia => exact ⟨_, rfl, rfl, rfl, rfl, by simp⟩
  | tube => exact ⟨_, rfl, rfl, rfl, rfl, by simp⟩
  | unmapped => exact ⟨_, rfl, rfl, rfl, rfl, by simp⟩
  | rom => exact ⟨_, rfl, rfl, rfl, rfl, by simp⟩

/-- An accepted write cycle completes: the registers stay, RAM takes the byte, the bus shows the cycle. -/
theorem writeCycle_ok (a : Word) (v : Byte) (s : State) (h : Accepts s.cfg a v = true) :
    ∃ t, writeCycle a v s = .next t ∧ t.regs = s.regs ∧ t.cfg = s.cfg ∧ t.bus = s.bus ++ [⟨a, v, false⟩] ∧
      t.mem = (if target s.cfg a = .ram then Memory.write s.mem a.toNat v else s.mem) := by
  obtain ⟨t, h1, h2, h3, h4, h5⟩ := busStore_ok a v s.beginCycle (by simpa using h)
  refine ⟨(t.latch a v false).endCycle, by simp [writeCycle, busWrite, h1], by simp [h2], by simp [h3], by simp [h4], ?_⟩
  simpa using h5

/-- A write cycle to memory, or to ROM, is an idle cycle for the world. -/
theorem writeCycle_plain (a : Word) (v : Byte) (s : State) (h : Plain s.cfg a) :
    ∃ t, writeCycle a v s = .next t ∧ t.regs = s.regs ∧ t.cfg = s.cfg ∧ t.bus = s.bus ++ [⟨a, v, false⟩] ∧
      t.mem = (if target s.cfg a = .ram then Memory.write s.mem a.toNat v else s.mem) ∧
      t.world = s.idleCycle.world := by
  have hc : target s.beginCycle.cfg a = target s.cfg a := by simp
  obtain h | h := h <;> rw [h] at hc
  · refine ⟨({ s.beginCycle with mem := Memory.write s.beginCycle.mem a.toNat v }.latch a v false).endCycle,
      by simp only [writeCycle, busWrite, busStore, hc], ?_⟩
    refine ⟨?_, by simp, by simp, by simp [h], State.endCycle_world_congr _ _ rfl⟩
    rw [State.endCycle_regs, State.latch_regs]
    exact State.beginCycle_regs s
  · refine ⟨(s.beginCycle.latch a v false).endCycle, by simp only [writeCycle, busWrite, busStore, hc], ?_⟩
    exact ⟨by simp, by simp, by simp, by simp [h], State.endCycle_world_congr _ _ rfl⟩

/-- The bytes of memory after a write cycle, in canonical memory. -/
theorem stored_of_mem (s t : State) (a : Word) (v : Byte) (hm : Memory.wf s.mem = true)
    (h : t.mem = (if target s.cfg a = .ram then Memory.write s.mem a.toNat v else s.mem)) (b : Word) :
    t.peek b = stored s.cfg a v s.peek b := by
  unfold State.peek stored
  rw [h]
  by_cases hr : target s.cfg a = .ram
  · simp only [hr, if_true, true_and, Memory.read_write _ _ _ _ hm, BitVec.toNat_inj]
  · simp [hr]

/-- The memory after a write cycle is canonical. -/
theorem wf_of_mem (s t : State) (a : Word) (v : Byte) (hm : Memory.wf s.mem = true)
    (h : t.mem = (if target s.cfg a = .ram then Memory.write s.mem a.toNat v else s.mem)) : Memory.wf t.mem = true := by
  rw [h]
  split
  · exact Memory.write_wf _ _ _ hm a.isLt
  · exact hm

end Sys2Proof.Machine
end

