-- ==== Sys2Proof/Laws/Operands.lean ====
section
/-! SUPPORT. What the shared operations of instructions do, said once each: effective addresses, the class tails, the stack,
interrupt entry and return. -/

namespace Sys2Proof.Machine

/-! ### Frames of the operand cycles -/

/-- The register and memory views, the parameters and the bus only grow through these operations: this says that `t` came
from `s` by read cycles alone. -/
structure ReadsOnly (s t : State) : Prop where
  regs : t.regs = s.regs
  mem : t.mem = s.mem
  cfg : t.cfg = s.cfg

theorem ReadsOnly.refl (s : State) : ReadsOnly s s := ⟨rfl, rfl, rfl⟩

theorem ReadsOnly.trans {s t u : State} (h : ReadsOnly s t) (k : ReadsOnly t u) : ReadsOnly s u :=
  ⟨k.regs.trans h.regs, k.mem.trans h.mem, k.cfg.trans h.cfg⟩

theorem ReadsOnly.peek {s t : State} (h : ReadsOnly s t) (a : Word) : t.peek a = s.peek a := by
  simp [State.peek, h.mem]

theorem ReadsOnly.read {s t : State} (h : ReadsOnly s t) (a : Word) : ReadsOnly s (readCycle a t).2 :=
  h.trans ⟨by simp, by simp, by simp⟩

theorem ReadsOnly.discard {s t : State} (h : ReadsOnly s t) (a : Word) : ReadsOnly s (discardCycle a t) := h.read a

theorem ReadsOnly.setAd {s t : State} (h : ReadsOnly s t) (w : Word) (f : Bool) : ReadsOnly s (t.setAd w f) :=
  h.trans ⟨rfl, rfl, rfl⟩

theorem ReadsOnly.setPtr {s t : State} (h : ReadsOnly s t) (v : Byte) : ReadsOnly s (t.setPtr v) :=
  h.trans ⟨rfl, rfl, rfl⟩

theorem ReadsOnly.setOpnd {s t : State} (h : ReadsOnly s t) (v : Byte) : ReadsOnly s (t.setOpnd v) :=
  h.trans ⟨rfl, rfl, rfl⟩

theorem indexedAddr_reads (always : Bool) (base : Word) (index : Byte) (s : State) :
    ReadsOnly s (indexedAddr always base index s).2 := by
  unfold indexedAddr
  split
  · exact (((ReadsOnly.refl s).setAd _ _).discard _).setAd _ _
  · exact (ReadsOnly.refl s).setAd _ _

theorem zpIndexedAddr_reads (b index : Byte) (s : State) : ReadsOnly s (zpIndexedAddr b index s).2 :=
  ((ReadsOnly.refl s).discard _).setAd _ _

theorem zpPointer_reads (p : Byte) (s : State) : ReadsOnly s (zpPointer p s).2 :=
  (((ReadsOnly.refl s).setPtr p).read _).read _

/-- Computing an effective address performs read cycles only. -/
theorem effAddr_reads (always : Bool) (m : Operand) (s : State) : ReadsOnly s (effAddr always m s).2 := by
  cases m with
  | zp b => exact (ReadsOnly.refl s).setAd _ _
  | zpx b => exact zpIndexedAddr_reads _ _ _
  | zpy b => exact zpIndexedAddr_reads _ _ _
  | abs w => exact (ReadsOnly.refl s).setAd _ _
  | absx w => exact indexedAddr_reads _ _ _ _
  | absy w => exact indexedAddr_reads _ _ _ _
  | indx b =>
    exact ((((ReadsOnly.refl s).setPtr b).discard (zext16 b)).trans (zpPointer_reads (b + s.cpu.x) _)).setAd _ _
  | indy b => exact (zpPointer_reads b s).trans (indexedAddr_reads _ _ _ _)

/-- Reading an operand performs read cycles only. -/
theorem readOperand_reads (m : Operand) (s : State) : ReadsOnly s (readOperand m s).2 :=
  ((effAddr_reads false m s).read _).setOpnd _

/-- A plain operand is the memory byte at its effective address. -/
theorem readOperand_plain (m : Operand) (s : State) (h : Plain s.cfg (effAddr false m s).1) :
    (readOperand m s).1 = s.peek (effAddr false m s).1 := by
  have hr := effAddr_reads false m s
  unfold readOperand
  rw [← hr.cfg] at h
  exact (readCycle_plain _ _ h).1.trans (hr.peek _)

/-! ### The class tails -/

/-- The Read class: always a next state, made by the operation of the operand byte. -/
theorem readOp_next (m : Operand) (op : Byte → State → State) (s : State) :
    readOp m op s = .next (op (readOperand m s).1 (readOperand m s).2).boundary := rfl

/-- The Write class completes when the write is accepted. -/
theorem storeOp_next (m : Operand) (v : Byte) (s : State)
    (h : Accepts s.cfg (effAddr true m s).1 v = true) :
    ∃ t, storeOp m v s = .next t ∧ t.regs = s.regs ∧ t.cfg = s.cfg ∧ AtBoundary t ∧
      t.mem = (if target s.cfg (effAddr true m s).1 = .ram then Memory.write s.mem (effAddr true m s).1.toNat v
        else s.mem) := by
  have hr := effAddr_reads true m s
  rw [← hr.cfg] at h
  obtain ⟨t, h1, h2, h3, -, h5⟩ := writeCycle_ok _ _ _ h
  refine ⟨t.boundary, by simp [storeOp, h1, andThen, finish], ?_, ?_, State.boundary_atBoundary t, ?_⟩
  · simpa [hr.regs] using h2
  · simpa [hr.cfg] using h3
  · simpa [hr.cfg, hr.mem] using h5

/-! ### The stack -/

/-- A push completes when its write is accepted. -/
theorem push_next (v : Byte) (s : State) (h : Accepts s.cfg (stackAt s.cfg s.cpu.s) v = true) :
    ∃ t, push v s = .next t ∧ t.regs = { s.regs with s := s.cpu.s - 1 } ∧ t.cfg = s.cfg ∧
      t.mem = (if target s.cfg (stackAt s.cfg s.cpu.s) = .ram then Memory.write s.mem (stackAt s.cfg s.cpu.s).toNat v else s.mem) := by
  obtain ⟨t, h1, h2, h3, -, h5⟩ := writeCycle_ok (stackAddr s) v s h
  have hs : t.cpu.s = s.cpu.s := (cpu_of_regs _ _ h2).2.2.2.1
  refine ⟨t.setS (t.cpu.s - 1), by simp [push, h1, andThen], ?_, by simpa using h3, h5⟩
  rw [State.setS_regs, h2, hs]

/-- What the discarded read before a pull does. -/
theorem pullStart_regs (s : State) : (pullStart s).regs = { s.regs with s := s.cpu.s + 1 } := by
  simp [pullStart]

theorem pullStart_mem (s : State) : (pullStart s).mem = s.mem := by simp [pullStart]
theorem pullStart_cfg (s : State) : (pullStart s).cfg = s.cfg := by simp [pullStart]

end Sys2Proof.Machine
end

