-- ==== Sys2Proof/Laws/PerInstr.lean ====
section
/-! SUPPORT. One lemma per constructor of `Instr`: the words of every instruction have the form their decoder asks for. -/

namespace Sys2Proof.Laws.CodeForm

/-- CPU bytes: as many operand bytes as the decoder takes after the opcode. A device's words have a register number or a
command byte, exact by their types. -/
def codeFits (c : Code) : Bool :=
  match c with
  | .cpu [] => false
  | .cpu (op :: operands) => operands.length == operandCount op
  | .viaRead _ _ => true
  | .viaWrite _ _ _ => true
  | .fdcRead _ => true
  | .fdcWrite _ _ => true
  | .fdcCommand _ => true
  | .tubeRead _ _ => true
  | .tubeWrite _ _ _ => true

/-- The words of the instruction have that form. -/
def Statement (i : Instr) : Prop := codeFits (encode i) = true

theorem oraIndx (b : Byte) : Statement (.oraIndx b) := rfl
theorem oraZp (b : Byte) : Statement (.oraZp b) := rfl
theorem aslZp (b : Byte) : Statement (.aslZp b) := rfl
theorem oraImm (v : Byte) : Statement (.oraImm v) := rfl
theorem oraAbs (w : Word) : Statement (.oraAbs w) := rfl
theorem aslAbs (w : Word) : Statement (.aslAbs w) := rfl
theorem bpl (off : Byte) : Statement (.bpl off) := rfl
theorem oraIndy (b : Byte) : Statement (.oraIndy b) := rfl
theorem oraZpx (b : Byte) : Statement (.oraZpx b) := rfl
theorem aslZpx (b : Byte) : Statement (.aslZpx b) := rfl
theorem oraAbsy (w : Word) : Statement (.oraAbsy w) := rfl
theorem oraAbsx (w : Word) : Statement (.oraAbsx w) := rfl
theorem aslAbsx (w : Word) : Statement (.aslAbsx w) := rfl
theorem jsrAbs (w : Word) : Statement (.jsrAbs w) := rfl
theorem andIndx (b : Byte) : Statement (.andIndx b) := rfl
theorem bitZp (b : Byte) : Statement (.bitZp b) := rfl
theorem andZp (b : Byte) : Statement (.andZp b) := rfl
theorem rolZp (b : Byte) : Statement (.rolZp b) := rfl
theorem andImm (v : Byte) : Statement (.andImm v) := rfl
theorem bitAbs (w : Word) : Statement (.bitAbs w) := rfl
theorem andAbs (w : Word) : Statement (.andAbs w) := rfl
theorem rolAbs (w : Word) : Statement (.rolAbs w) := rfl
theorem bmi (off : Byte) : Statement (.bmi off) := rfl
theorem andIndy (b : Byte) : Statement (.andIndy b) := rfl
theorem andZpx (b : Byte) : Statement (.andZpx b) := rfl
theorem rolZpx (b : Byte) : Statement (.rolZpx b) := rfl
theorem andAbsy (w : Word) : Statement (.andAbsy w) := rfl
theorem andAbsx (w : Word) : Statement (.andAbsx w) := rfl
theorem rolAbsx (w : Word) : Statement (.rolAbsx w) := rfl
theorem eorIndx (b : Byte) : Statement (.eorIndx b) := rfl
theorem eorZp (b : Byte) : Statement (.eorZp b) := rfl
theorem lsrZp (b : Byte) : Statement (.lsrZp b) := rfl
theorem eorImm (v : Byte) : Statement (.eorImm v) := rfl
theorem jmpAbs (w : Word) : Statement (.jmpAbs w) := rfl
theorem eorAbs (w : Word) : Statement (.eorAbs w) := rfl
theorem lsrAbs (w : Word) : Statement (.lsrAbs w) := rfl
theorem bvc (off : Byte) : Statement (.bvc off) := rfl
theorem eorIndy (b : Byte) : Statement (.eorIndy b) := rfl
theorem eorZpx (b : Byte) : Statement (.eorZpx b) := rfl
theorem lsrZpx (b : Byte) : Statement (.lsrZpx b) := rfl
theorem eorAbsy (w : Word) : Statement (.eorAbsy w) := rfl
theorem eorAbsx (w : Word) : Statement (.eorAbsx w) := rfl
theorem lsrAbsx (w : Word) : Statement (.lsrAbsx w) := rfl
theorem adcIndx (b : Byte) : Statement (.adcIndx b) := rfl
theorem adcZp (b : Byte) : Statement (.adcZp b) := rfl
theorem rorZp (b : Byte) : Statement (.rorZp b) := rfl
theorem adcImm (v : Byte) : Statement (.adcImm v) := rfl
theorem jmpInd (w : Word) : Statement (.jmpInd w) := rfl
theorem adcAbs (w : Word) : Statement (.adcAbs w) := rfl
theorem rorAbs (w : Word) : Statement (.rorAbs w) := rfl
theorem bvs (off : Byte) : Statement (.bvs off) := rfl
theorem adcIndy (b : Byte) : Statement (.adcIndy b) := rfl
theorem adcZpx (b : Byte) : Statement (.adcZpx b) := rfl
theorem rorZpx (b : Byte) : Statement (.rorZpx b) := rfl
theorem adcAbsy (w : Word) : Statement (.adcAbsy w) := rfl
theorem adcAbsx (w : Word) : Statement (.adcAbsx w) := rfl
theorem rorAbsx (w : Word) : Statement (.rorAbsx w) := rfl
theorem staIndx (b : Byte) : Statement (.staIndx b) := rfl
theorem styZp (b : Byte) : Statement (.styZp b) := rfl
theorem staZp (b : Byte) : Statement (.staZp b) := rfl
theorem stxZp (b : Byte) : Statement (.stxZp b) := rfl
theorem styAbs (w : Word) : Statement (.styAbs w) := rfl
theorem staAbs (w : Word) : Statement (.staAbs w) := rfl
theorem stxAbs (w : Word) : Statement (.stxAbs w) := rfl
theorem bcc (off : Byte) : Statement (.bcc off) := rfl
theorem staIndy (b : Byte) : Statement (.staIndy b) := rfl
theorem styZpx (b : Byte) : Statement (.styZpx b) := rfl
theorem staZpx (b : Byte) : Statement (.staZpx b) := rfl
theorem stxZpy (b : Byte) : Statement (.stxZpy b) := rfl
theorem staAbsy (w : Word) : Statement (.staAbsy w) := rfl
theorem staAbsx (w : Word) : Statement (.staAbsx w) := rfl
theorem ldyImm (v : Byte) : Statement (.ldyImm v) := rfl
theorem ldaIndx (b : Byte) : Statement (.ldaIndx b) := rfl
theorem ldxImm (v : Byte) : Statement (.ldxImm v) := rfl
theorem ldyZp (b : Byte) : Statement (.ldyZp b) := rfl
theorem ldaZp (b : Byte) : Statement (.ldaZp b) := rfl
theorem ldxZp (b : Byte) : Statement (.ldxZp b) := rfl
theorem ldaImm (v : Byte) : Statement (.ldaImm v) := rfl
theorem ldyAbs (w : Word) : Statement (.ldyAbs w) := rfl
theorem ldaAbs (w : Word) : Statement (.ldaAbs w) := rfl
theorem ldxAbs (w : Word) : Statement (.ldxAbs w) := rfl
theorem bcs (off : Byte) : Statement (.bcs off) := rfl
theorem ldaIndy (b : Byte) : Statement (.ldaIndy b) := rfl
theorem ldyZpx (b : Byte) : Statement (.ldyZpx b) := rfl
theorem ldaZpx (b : Byte) : Statement (.ldaZpx b) := rfl
theorem ldxZpy (b : Byte) : Statement (.ldxZpy b) := rfl
theorem ldaAbsy (w : Word) : Statement (.ldaAbsy w) := rfl
theorem ldyAbsx (w : Word) : Statement (.ldyAbsx w) := rfl
theorem ldaAbsx (w : Word) : Statement (.ldaAbsx w) := rfl
theorem ldxAbsy (w : Word) : Statement (.ldxAbsy w) := rfl
theorem cpyImm (v : Byte) : Statement (.cpyImm v) := rfl
theorem cmpIndx (b : Byte) : Statement (.cmpIndx b) := rfl
theorem cpyZp (b : Byte) : Statement (.cpyZp b) := rfl
theorem cmpZp (b : Byte) : Statement (.cmpZp b) := rfl
theorem decZp (b : Byte) : Statement (.decZp b) := rfl
theorem cmpImm (v : Byte) : Statement (.cmpImm v) := rfl
theorem cpyAbs (w : Word) : Statement (.cpyAbs w) := rfl
theorem cmpAbs (w : Word) : Statement (.cmpAbs w) := rfl
theorem decAbs (w : Word) : Statement (.decAbs w) := rfl
theorem bne (off : Byte) : Statement (.bne off) := rfl
theorem cmpIndy (b : Byte) : Statement (.cmpIndy b) := rfl
theorem cmpZpx (b : Byte) : Statement (.cmpZpx b) := rfl
theorem decZpx (b : Byte) : Statement (.decZpx b) := rfl
theorem cmpAbsy (w : Word) : Statement (.cmpAbsy w) := rfl
theorem cmpAbsx (w : Word) : Statement (.cmpAbsx w) := rfl
theorem decAbsx (w : Word) : Statement (.decAbsx w) := rfl
theorem cpxImm (v : Byte) : Statement (.cpxImm v) := rfl
theorem sbcIndx (b : Byte) : Statement (.sbcIndx b) := rfl
theorem cpxZp (b : Byte) : Statement (.cpxZp b) := rfl
theorem sbcZp (b : Byte) : Statement (.sbcZp b) := rfl
theorem incZp (b : Byte) : Statement (.incZp b) := rfl
theorem sbcImm (v : Byte) : Statement (.sbcImm v) := rfl
theorem cpxAbs (w : Word) : Statement (.cpxAbs w) := rfl
theorem sbcAbs (w : Word) : Statement (.sbcAbs w) := rfl
theorem incAbs (w : Word) : Statement (.incAbs w) := rfl
theorem beq (off : Byte) : Statement (.beq off) := rfl
theorem sbcIndy (b : Byte) : Statement (.sbcIndy b) := rfl
theorem sbcZpx (b : Byte) : Statement (.sbcZpx b) := rfl
theorem incZpx (b : Byte) : Statement (.incZpx b) := rfl
theorem sbcAbsy (w : Word) : Statement (.sbcAbsy w) := rfl
theorem sbcAbsx (w : Word) : Statement (.sbcAbsx w) := rfl
theorem incAbsx (w : Word) : Statement (.incAbsx w) := rfl
theorem viaReadOrb (id : ViaId) : Statement (.viaReadOrb id) := rfl
theorem viaWriteOrb (id : ViaId) (v : Byte) : Statement (.viaWriteOrb id v) := rfl
theorem viaReadOra (id : ViaId) : Statement (.viaReadOra id) := rfl
theorem viaWriteOra (id : ViaId) (v : Byte) : Statement (.viaWriteOra id v) := rfl
theorem viaReadDdrb (id : ViaId) : Statement (.viaReadDdrb id) := rfl
theorem viaWriteDdrb (id : ViaId) (v : Byte) : Statement (.viaWriteDdrb id v) := rfl
theorem viaReadDdra (id : ViaId) : Statement (.viaReadDdra id) := rfl
theorem viaWriteDdra (id : ViaId) (v : Byte) : Statement (.viaWriteDdra id v) := rfl
theorem viaReadT1cl (id : ViaId) : Statement (.viaReadT1cl id) := rfl
theorem viaWriteT1cl (id : ViaId) (v : Byte) : Statement (.viaWriteT1cl id v) := rfl
theorem viaReadT1ch (id : ViaId) : Statement (.viaReadT1ch id) := rfl
theorem viaWriteT1ch (id : ViaId) (v : Byte) : Statement (.viaWriteT1ch id v) := rfl
theorem viaReadT1ll (id : ViaId) : Statement (.viaReadT1ll id) := rfl
theorem viaWriteT1ll (id : ViaId) (v : Byte) : Statement (.viaWriteT1ll id v) := rfl
theorem viaReadT1lh (id : ViaId) : Statement (.viaReadT1lh id) := rfl
theorem viaWriteT1lh (id : ViaId) (v : Byte) : Statement (.viaWriteT1lh id v) := rfl
theorem viaReadT2cl (id : ViaId) : Statement (.viaReadT2cl id) := rfl
theorem viaWriteT2cl (id : ViaId) (v : Byte) : Statement (.viaWriteT2cl id v) := rfl
theorem viaReadT2ch (id : ViaId) : Statement (.viaReadT2ch id) := rfl
theorem viaWriteT2ch (id : ViaId) (v : Byte) : Statement (.viaWriteT2ch id v) := rfl
theorem viaReadSr (id : ViaId) : Statement (.viaReadSr id) := rfl
theorem viaWriteSr (id : ViaId) (v : Byte) : Statement (.viaWriteSr id v) := rfl
theorem viaReadAcr (id : ViaId) : Statement (.viaReadAcr id) := rfl
theorem viaWriteAcr (id : ViaId) (v : Byte) : Statement (.viaWriteAcr id v) := rfl
theorem viaReadPcr (id : ViaId) : Statement (.viaReadPcr id) := rfl
theorem viaWritePcr (id : ViaId) (v : Byte) : Statement (.viaWritePcr id v) := rfl
theorem viaReadIfr (id : ViaId) : Statement (.viaReadIfr id) := rfl
theorem viaWriteIfr (id : ViaId) (v : Byte) : Statement (.viaWriteIfr id v) := rfl
theorem viaReadIer (id : ViaId) : Statement (.viaReadIer id) := rfl
theorem viaWriteIer (id : ViaId) (v : Byte) : Statement (.viaWriteIer id v) := rfl
theorem viaReadOraF (id : ViaId) : Statement (.viaReadOraF id) := rfl
theorem viaWriteOraF (id : ViaId) (v : Byte) : Statement (.viaWriteOraF id v) := rfl
theorem fdcWriteCommand (v : Byte) : Statement (.fdcWriteCommand v) := rfl
theorem fdcWriteTrack (v : Byte) : Statement (.fdcWriteTrack v) := rfl
theorem fdcWriteSector (v : Byte) : Statement (.fdcWriteSector v) := rfl
theorem fdcWriteData (v : Byte) : Statement (.fdcWriteData v) := rfl
theorem fdcCmdRestore (v : Byte) : Statement (.fdcCmdRestore v) := rfl
theorem fdcCmdSeek (v : Byte) : Statement (.fdcCmdSeek v) := rfl
theorem fdcCmdStep (v : Byte) : Statement (.fdcCmdStep v) := rfl
theorem fdcCmdStepIn (v : Byte) : Statement (.fdcCmdStepIn v) := rfl
theorem fdcCmdStepOut (v : Byte) : Statement (.fdcCmdStepOut v) := rfl
theorem fdcCmdReadSector (v : Byte) : Statement (.fdcCmdReadSector v) := rfl
theorem fdcCmdWriteSector (v : Byte) : Statement (.fdcCmdWriteSector v) := rfl
theorem fdcCmdReadAddress (v : Byte) : Statement (.fdcCmdReadAddress v) := rfl
theorem fdcCmdForceInterrupt (v : Byte) : Statement (.fdcCmdForceInterrupt v) := rfl
theorem fdcCmdReadTrack (v : Byte) : Statement (.fdcCmdReadTrack v) := rfl
theorem fdcCmdWriteTrack (v : Byte) : Statement (.fdcCmdWriteTrack v) := rfl
theorem tubeHostWrite0 (v : Byte) : Statement (.tubeHostWrite0 v) := rfl
theorem tubeParasiteWrite0 (v : Byte) : Statement (.tubeParasiteWrite0 v) := rfl
theorem tubeHostWrite1 (v : Byte) : Statement (.tubeHostWrite1 v) := rfl
theorem tubeParasiteWrite1 (v : Byte) : Statement (.tubeParasiteWrite1 v) := rfl
theorem tubeHostWrite2 (v : Byte) : Statement (.tubeHostWrite2 v) := rfl
theorem tubeParasiteWrite2 (v : Byte) : Statement (.tubeParasiteWrite2 v) := rfl
theorem tubeHostWrite3 (v : Byte) : Statement (.tubeHostWrite3 v) := rfl
theorem tubeParasiteWrite3 (v : Byte) : Statement (.tubeParasiteWrite3 v) := rfl
theorem tubeHostWrite4 (v : Byte) : Statement (.tubeHostWrite4 v) := rfl
theorem tubeParasiteWrite4 (v : Byte) : Statement (.tubeParasiteWrite4 v) := rfl
theorem tubeHostWrite5 (v : Byte) : Statement (.tubeHostWrite5 v) := rfl
theorem tubeParasiteWrite5 (v : Byte) : Statement (.tubeParasiteWrite5 v) := rfl
theorem tubeHostWrite6 (v : Byte) : Statement (.tubeHostWrite6 v) := rfl
theorem tubeParasiteWrite6 (v : Byte) : Statement (.tubeParasiteWrite6 v) := rfl
theorem tubeHostWrite7 (v : Byte) : Statement (.tubeHostWrite7 v) := rfl
theorem tubeParasiteWrite7 (v : Byte) : Statement (.tubeParasiteWrite7 v) := rfl
theorem brk : Statement (.brk) := rfl
theorem php : Statement (.php) := rfl
theorem aslAcc : Statement (.aslAcc) := rfl
theorem clc : Statement (.clc) := rfl
theorem plp : Statement (.plp) := rfl
theorem rolAcc : Statement (.rolAcc) := rfl
theorem sec : Statement (.sec) := rfl
theorem rti : Statement (.rti) := rfl
theorem pha : Statement (.pha) := rfl
theorem lsrAcc : Statement (.lsrAcc) := rfl
theorem cli : Statement (.cli) := rfl
theorem rts : Statement (.rts) := rfl
theorem pla : Statement (.pla) := rfl
theorem rorAcc : Statement (.rorAcc) := rfl
theorem sei : Statement (.sei) := rfl
theorem dey : Statement (.dey) := rfl
theorem txa : Statement (.txa) := rfl
theorem tya : Statement (.tya) := rfl
theorem txs : Statement (.txs) := rfl
theorem tay : Statement (.tay) := rfl
theorem tax : Statement (.tax) := rfl
theorem clv : Statement (.clv) := rfl
theorem tsx : Statement (.tsx) := rfl
theorem iny : Statement (.iny) := rfl
theorem dex : Statement (.dex) := rfl
theorem cld : Statement (.cld) := rfl
theorem inx : Statement (.inx) := rfl
theorem nop : Statement (.nop) := rfl
theorem sed : Statement (.sed) := rfl
theorem reserved02 : Statement (.reserved02) := rfl
theorem reserved03 : Statement (.reserved03) := rfl
theorem reserved04 : Statement (.reserved04) := rfl
theorem reserved07 : Statement (.reserved07) := rfl
theorem reserved0B : Statement (.reserved0B) := rfl
theorem reserved0C : Statement (.reserved0C) := rfl
theorem reserved0F : Statement (.reserved0F) := rfl
theorem reserved12 : Statement (.reserved12) := rfl
theorem reserved13 : Statement (.reserved13) := rfl
theorem reserved14 : Statement (.reserved14) := rfl
theorem reserved17 : Statement (.reserved17) := rfl
theorem reserved1A : Statement (.reserved1A) := rfl
theorem reserved1B : Statement (.reserved1B) := rfl
theorem reserved1C : Statement (.reserved1C) := rfl
theorem reserved1F : Statement (.reserved1F) := rfl
theorem reserved22 : Statement (.reserved22) := rfl
theorem reserved23 : Statement (.reserved23) := rfl
theorem reserved27 : Statement (.reserved27) := rfl
theorem reserved2B : Statement (.reserved2B) := rfl
theorem reserved2F : Statement (.reserved2F) := rfl
theorem reserved32 : Statement (.reserved32) := rfl
theorem reserved33 : Statement (.reserved33) := rfl
theorem reserved34 : Statement (.reserved34) := rfl
theorem reserved37 : Statement (.reserved37) := rfl
theorem reserved3A : Statement (.reserved3A) := rfl
theorem reserved3B : Statement (.reserved3B) := rfl
theorem reserved3C : Statement (.reserved3C) := rfl
theorem reserved3F : Statement (.reserved3F) := rfl
theorem reserved42 : Statement (.reserved42) := rfl
theorem reserved43 : Statement (.reserved43) := rfl
theorem reserved44 : Statement (.reserved44) := rfl
theorem reserved47 : Statement (.reserved47) := rfl
theorem reserved4B : Statement (.reserved4B) := rfl
theorem reserved4F : Statement (.reserved4F) := rfl
theorem reserved52 : Statement (.reserved52) := rfl
theorem reserved53 : Statement (.reserved53) := rfl
theorem reserved54 : Statement (.reserved54) := rfl
theorem reserved57 : Statement (.reserved57) := rfl
theorem reserved5A : Statement (.reserved5A) := rfl
theorem reserved5B : Statement (.reserved5B) := rfl
theorem reserved5C : Statement (.reserved5C) := rfl
theorem reserved5F : Statement (.reserved5F) := rfl
theorem reserved62 : Statement (.reserved62) := rfl
theorem reserved63 : Statement (.reserved63) := rfl
theorem reserved64 : Statement (.reserved64) := rfl
theorem reserved67 : Statement (.reserved67) := rfl
theorem reserved6B : Statement (.reserved6B) := rfl
theorem reserved6F : Statement (.reserved6F) := rfl
theorem reserved72 : Statement (.reserved72) := rfl
theorem reserved73 : Statement (.reserved73) := rfl
theorem reserved74 : Statement (.reserved74) := rfl
theorem reserved77 : Statement (.reserved77) := rfl
theorem reserved7A : Statement (.reserved7A) := rfl
theorem reserved7B : Statement (.reserved7B) := rfl
theorem reserved7C : Statement (.reserved7C) := rfl
theorem reserved7F : Statement (.reserved7F) := rfl
theorem reserved80 : Statement (.reserved80) := rfl
theorem reserved82 : Statement (.reserved82) := rfl
theorem reserved83 : Statement (.reserved83) := rfl
theorem reserved87 : Statement (.reserved87) := rfl
theorem reserved89 : Statement (.reserved89) := rfl
theorem reserved8B : Statement (.reserved8B) := rfl
theorem reserved8F : Statement (.reserved8F) := rfl
theorem reserved92 : Statement (.reserved92) := rfl
theorem reserved93 : Statement (.reserved93) := rfl
theorem reserved97 : Statement (.reserved97) := rfl
theorem reserved9B : Statement (.reserved9B) := rfl
theorem reserved9C : Statement (.reserved9C) := rfl
theorem reserved9E : Statement (.reserved9E) := rfl
theorem reserved9F : Statement (.reserved9F) := rfl
theorem reservedA3 : Statement (.reservedA3) := rfl
theorem reservedA7 : Statement (.reservedA7) := rfl
theorem reservedAB : Statement (.reservedAB) := rfl
theorem reservedAF : Statement (.reservedAF) := rfl
theorem reservedB2 : Statement (.reservedB2) := rfl
theorem reservedB3 : Statement (.reservedB3) := rfl
theorem reservedB7 : Statement (.reservedB7) := rfl
theorem reservedBB : Statement (.reservedBB) := rfl
theorem reservedBF : Statement (.reservedBF) := rfl
theorem reservedC2 : Statement (.reservedC2) := rfl
theorem reservedC3 : Statement (.reservedC3) := rfl
theorem reservedC7 : Statement (.reservedC7) := rfl
theorem reservedCB : Statement (.reservedCB) := rfl
theorem reservedCF : Statement (.reservedCF) := rfl
theorem reservedD2 : Statement (.reservedD2) := rfl
theorem reservedD3 : Statement (.reservedD3) := rfl
theorem reservedD4 : Statement (.reservedD4) := rfl
theorem reservedD7 : Statement (.reservedD7) := rfl
theorem reservedDA : Statement (.reservedDA) := rfl
theorem reservedDB : Statement (.reservedDB) := rfl
theorem reservedDC : Statement (.reservedDC) := rfl
theorem reservedDF : Statement (.reservedDF) := rfl
theorem reservedE2 : Statement (.reservedE2) := rfl
theorem reservedE3 : Statement (.reservedE3) := rfl
theorem reservedE7 : Statement (.reservedE7) := rfl
theorem reservedEB : Statement (.reservedEB) := rfl
theorem reservedEF : Statement (.reservedEF) := rfl
theorem reservedF2 : Statement (.reservedF2) := rfl
theorem reservedF3 : Statement (.reservedF3) := rfl
theorem reservedF4 : Statement (.reservedF4) := rfl
theorem reservedF7 : Statement (.reservedF7) := rfl
theorem reservedFA : Statement (.reservedFA) := rfl
theorem reservedFB : Statement (.reservedFB) := rfl
theorem reservedFC : Statement (.reservedFC) := rfl
theorem reservedFF : Statement (.reservedFF) := rfl
theorem fdcReadStatus : Statement (.fdcReadStatus) := rfl
theorem fdcReadTrack : Statement (.fdcReadTrack) := rfl
theorem fdcReadSector : Statement (.fdcReadSector) := rfl
theorem fdcReadData : Statement (.fdcReadData) := rfl
theorem tubeHostRead0 : Statement (.tubeHostRead0) := rfl
theorem tubeParasiteRead0 : Statement (.tubeParasiteRead0) := rfl
theorem tubeHostRead1 : Statement (.tubeHostRead1) := rfl
theorem tubeParasiteRead1 : Statement (.tubeParasiteRead1) := rfl
theorem tubeHostRead2 : Statement (.tubeHostRead2) := rfl
theorem tubeParasiteRead2 : Statement (.tubeParasiteRead2) := rfl
theorem tubeHostRead3 : Statement (.tubeHostRead3) := rfl
theorem tubeParasiteRead3 : Statement (.tubeParasiteRead3) := rfl
theorem tubeHostRead4 : Statement (.tubeHostRead4) := rfl
theorem tubeParasiteRead4 : Statement (.tubeParasiteRead4) := rfl
theorem tubeHostRead5 : Statement (.tubeHostRead5) := rfl
theorem tubeParasiteRead5 : Statement (.tubeParasiteRead5) := rfl
theorem tubeHostRead6 : Statement (.tubeHostRead6) := rfl
theorem tubeParasiteRead6 : Statement (.tubeParasiteRead6) := rfl
theorem tubeHostRead7 : Statement (.tubeHostRead7) := rfl
theorem tubeParasiteRead7 : Statement (.tubeParasiteRead7) := rfl

end Sys2Proof.Laws.CodeForm
end

