-- ==== Sys2Proof/Laws/Sequences.lean ====
section
/-! SUPPORT. What the shared sequences of cycles do, said once: a push, a pull, the vector fetch, the whole interrupt entry, the
return from it, a taken branch, and the tail of a read-modify-write instruction. -/

namespace Sys2Proof.Machine

/-! ### Cycles -/

/-- An accepted write cycle with everything it does; over plain memory it is an idle cycle for the world. -/
theorem writeCycle_next (a : Word) (v : Byte) (s : State) (hm : Memory.wf s.mem = true) (h : Accepts s.cfg a v = true) :
    ∃ t, writeCycle a v s = .next t ∧ t.regs = s.regs ∧ t.cfg = s.cfg ∧ t.bus = s.bus ++ [⟨a, v, false⟩] ∧
      Memory.wf t.mem = true ∧ (∀ b, t.peek b = stored s.cfg a v s.peek b) ∧
      (Plain s.cfg a → t.world = s.idleCycle.world) := by
  obtain ⟨t, h1, h2, h3, h4, h5⟩ := writeCycle_ok a v s h
  refine ⟨t, h1, h2, h3, h4, wf_of_mem s t a v hm h5, stored_of_mem s t a v hm h5, fun hp => ?_⟩
  obtain ⟨u, k1, -, -, -, -, k6⟩ := writeCycle_plain a v s hp
  rw [h1] at k1
  cases k1
  exact k6

/-- Two read cycles over plain memory are two idle cycles for the world, whatever registers are written between them. -/
theorem idleCycles_two (s t u : State) (ht : t.world = s.idleCycle.world) (hu : u.world = t.idleCycle.world) :
    u.world = (State.idleCycles 2 s).world :=
  hu.trans (State.idleCycle_world_congr _ _ ht)

/-- One more idle cycle. -/
theorem idleCycles_succ (n : Nat) (s t u : State) (ht : t.world = (State.idleCycles n s).world)
    (hu : u.world = t.idleCycle.world) : u.world = (State.idleCycles (n + 1) s).world := by
  rw [State.idleCycles_add n 1 s]
  exact hu.trans (State.idleCycle_world_congr _ _ ht)

/-! ### The stack -/

/-- A push with everything it does. -/
theorem push_all (v : Byte) (s : State) (hm : Memory.wf s.mem = true)
    (h : Accepts s.cfg (stackAt s.cfg s.cpu.s) v = true) :
    ∃ t, push v s = .next t ∧ t.regs = { s.regs with s := s.cpu.s - 1 } ∧ t.cfg = s.cfg ∧
      t.bus = s.bus ++ [⟨stackAt s.cfg s.cpu.s, v, false⟩] ∧ Memory.wf t.mem = true ∧
      (∀ b, t.peek b = stored s.cfg (stackAt s.cfg s.cpu.s) v s.peek b) ∧
      (Plain s.cfg (stackAt s.cfg s.cpu.s) → t.world = s.idleCycle.world) := by
  obtain ⟨t, h1, h2, h3, h4, h5, h6, h7⟩ := writeCycle_next (stackAddr s) v s hm h
  have hs : t.cpu.s = s.cpu.s := (cpu_of_regs _ _ h2).2.2.2.1
  refine ⟨t.setS (t.cpu.s - 1), by simp [push, h1, andThen], ?_, h3, h4, h5, h6, h7⟩
  rw [State.setS_regs, h2, hs]

/-- A pull's read cycle: the byte is memory's when the stack address is plain. -/
theorem pullRead_all (s : State) :
    (pullRead s).2.regs = s.regs ∧ (pullRead s).2.cfg = s.cfg ∧ (pullRead s).2.mem = s.mem ∧
      (Plain s.cfg (stackAt s.cfg s.cpu.s) →
        (pullRead s).1 = s.peek (stackAt s.cfg s.cpu.s) ∧ (pullRead s).2.world = s.idleCycle.world) :=
  ⟨readCycle_regs _ _, readCycle_cfg _ _, readCycle_mem _ _, readCycle_plain _ _⟩

/-- A pull in the middle of a sequence: the same, with the stack pointer moved on. -/
theorem pullNext_all (s : State) :
    (pullNext s).1 = (pullRead s).1 ∧ (pullNext s).2.regs = { s.regs with s := s.cpu.s + 1 } ∧
      (pullNext s).2.cfg = s.cfg ∧ (pullNext s).2.mem = s.mem ∧ (pullNext s).2.world = (pullRead s).2.world := by
  refine ⟨rfl, ?_, readCycle_cfg _ _, readCycle_mem _ _, rfl⟩
  simp [pullNext, pullRead]

/-! ### The interrupt entry and the return from it -/

/-- Cycles c6 and c7 of an entry: they always complete. -/
theorem enterVector_next (vector : Word) (s : State) :
    ∃ t lo hi, enterVector vector s = .next t ∧
      t.regs = { s.regs with pc := mkWord hi lo, p := { s.cpu.p with i := true } } ∧ t.cfg = s.cfg ∧ t.mem = s.mem ∧
      t.bus = s.bus ++ [⟨vector, lo, true⟩, ⟨vector + 1, hi, true⟩] ∧
      (Plain s.cfg vector → lo = s.peek vector) ∧ (Plain s.cfg (vector + 1) → hi = s.peek (vector + 1)) ∧
      (Plain s.cfg vector → Plain s.cfg (vector + 1) → t.world = (State.idleCycles 2 s).world) ∧ AtBoundary t := by
  obtain ⟨q, hq⟩ : ∃ q, q = readCycle vector s := ⟨_, rfl⟩
  obtain ⟨m, hm⟩ : ∃ m, m = (q.2.setOpnd q.1).setP { q.2.cpu.p with i := true } := ⟨_, rfl⟩
  have q1 : q.2.regs = s.regs := by rw [hq]; exact readCycle_regs _ _
  have q2 : q.2.cfg = s.cfg := by rw [hq]; exact readCycle_cfg _ _
  have q3 : q.2.mem = s.mem := by rw [hq]; exact readCycle_mem _ _
  have q4 : q.2.bus = s.bus ++ [⟨vector, q.1, true⟩] := by rw [hq]; exact readCycle_bus _ _
  have qp : q.2.cpu.p = s.cpu.p := (cpu_of_regs _ _ q1).2.2.2.2.2.1
  have m1 : m.regs = { s.regs with p := { s.cpu.p with i := true } } := by
    rw [hm, State.setP_regs, State.setOpnd_regs, q1, qp]
  have m2 : m.cfg = s.cfg := by rw [hm]; exact q2
  have m3 : m.mem = s.mem := by rw [hm]; exact q3
  have m4 : m.bus = s.bus ++ [⟨vector, q.1, true⟩] := by rw [hm]; exact q4
  have m5 : m.world = q.2.world := by rw [hm]; rfl
  have he : enterVector vector s = finish ((readCycle (vector + 1) m).2.setPc (mkWord (readCycle (vector + 1) m).1 q.1)) := by
    rw [hm, hq]; rfl
  clear hm
  refine ⟨_, q.1, (readCycle (vector + 1) m).1, he, ?_, ?_, ?_, ?_, ?_, ?_, ?_, State.boundary_atBoundary _⟩
  · simp [m1]
  · simpa using m2
  · simpa using m3
  · simp [m4]
  · intro h
    rw [hq]
    exact (readCycle_plain _ _ h).1
  · intro h
    refine (readCycle_plain _ _ (by rw [m2]; exact h)).1.trans ?_
    simp [State.peek, m3]
  · intro h1 h2
    refine idleCycles_two s m _ ?_ ?_
    · rw [m5, hq]
      exact (readCycle_plain _ _ h1).2
    · rw [State.boundary_world, State.setPc_world]
      exact (readCycle_plain _ _ (by rw [m2]; exact h2)).2

/-- Cycles c3 to c7 of IRQ, NMI and BRK complete when the three pushes are accepted. -/
theorem enterInterrupt_next (brk : Bool) (vector : Word) (s : State) (hm : Memory.wf s.mem = true)
    (h1 : Accepts s.cfg (stackAt s.cfg s.cpu.s) (hiByte s.cpu.pc) = true)
    (h2 : Accepts s.cfg (stackAt s.cfg (s.cpu.s - 1)) (loByte s.cpu.pc) = true)
    (h3 : Accepts s.cfg (stackAt s.cfg (s.cpu.s - 2)) (s.cpu.p.toByte brk) = true) :
    ∃ t lo hi, enterInterrupt brk vector s = .next t ∧
      t.regs = { s.regs with s := s.cpu.s - 3, pc := mkWord hi lo, p := { s.cpu.p with i := true } } ∧ t.cfg = s.cfg ∧
      (∀ b, t.peek b = frame s.cfg s.cpu.s s.cpu.pc (s.cpu.p.toByte brk) s.peek b) ∧
      t.bus = s.bus ++ [⟨stackAt s.cfg s.cpu.s, hiByte s.cpu.pc, false⟩,
        ⟨stackAt s.cfg (s.cpu.s - 1), loByte s.cpu.pc, false⟩,
        ⟨stackAt s.cfg (s.cpu.s - 2), s.cpu.p.toByte brk, false⟩, ⟨vector, lo, true⟩, ⟨vector + 1, hi, true⟩] ∧
      (Plain s.cfg vector → lo = t.peek vector) ∧ (Plain s.cfg (vector + 1) → hi = t.peek (vector + 1)) ∧
      (Plain s.cfg (stackAt s.cfg s.cpu.s) → Plain s.cfg (stackAt s.cfg (s.cpu.s - 1)) →
        Plain s.cfg (stackAt s.cfg (s.cpu.s - 2)) → Plain s.cfg vector → Plain s.cfg (vector + 1) →
        t.world = (State.idleCycles 5 s).world) ∧ AtBoundary t := by
  have e2 : s.cpu.s - 1 - 1 = s.cpu.s - 2 := by bv_omega
  have e3 : s.cpu.s - 2 - 1 = s.cpu.s - 3 := by bv_omega
  obtain ⟨t, a1, a2, a3, a4, a5, a6, a7⟩ := push_all _ s hm h1
  have ts : t.cpu.s = s.cpu.s - 1 := congrArg Regs.s a2
  have tpc : t.cpu.pc = s.cpu.pc := congrArg Regs.pc a2
  have tp : t.cpu.p = s.cpu.p := congrArg Regs.p a2
  obtain ⟨u, b1, b2, b3, b4, b5, b6, b7⟩ := push_all (loByte s.cpu.pc) t a5 (by rw [a3, ts]; exact h2)
  rw [a3, ts] at b4 b6 b7
  rw [ts, e2, a2] at b2
  have us : u.cpu.s = s.cpu.s - 2 := congrArg Regs.s b2
  have up : u.cpu.p = s.cpu.p := congrArg Regs.p b2
  have uc : u.cfg = s.cfg := b3.trans a3
  obtain ⟨w, c1, c2, c3, c4, c5, c6, c7⟩ := push_all (s.cpu.p.toByte brk) u b5 (by rw [uc, us]; exact h3)
  rw [uc, us] at c4 c6 c7
  rw [us, e3, b2] at c2
  have wp : w.cpu.p = s.cpu.p := congrArg Regs.p c2
  have wc : w.cfg = s.cfg := c3.trans uc
  obtain ⟨x, lo, hi, d1, d2, d3, d4, d5, d6, d7, d8, d9⟩ := enterVector_next vector w
  have hpk : ∀ b, x.peek b = w.peek b := fun b => by simp [State.peek, d4]
  refine ⟨x, lo, hi, ?_, ?_, d3.trans wc, ?_, ?_, ?_, ?_, ?_, d9⟩
  · simp only [enterInterrupt, a1, andThen, tpc, b1, up, c1, d1]
  · rw [d2, c2, wp]
  · intro b
    rw [hpk, c6]
    simp only [frame, stored, b6, a6]
  · rw [d5, c4, b4, a4]
    simp
  · intro h
    rw [hpk]
    exact d6 (by rw [wc]; exact h)
  · intro h
    rw [hpk]
    exact d7 (by rw [wc]; exact h)
  · intro p1 p2 p3 p4 p5
    have q := idleCycles_succ 2 s u w (idleCycles_two s t u (a7 p1) (b7 p2)) (c7 p3)
    rw [State.idleCycles_add 3 2 s, d8 (by rw [wc]; exact p4) (by rw [wc]; exact p5)]
    exact State.idleCycles_world_congr 2 _ _ q

/-- A return from an interrupt always completes (R354, from its second cycle on). -/
theorem returnFromInterrupt_next (s : State) :
    ∃ t f lo hi, returnFromInterrupt s = .next t ∧
      t.regs = { s.regs with s := s.cpu.s + 3, pc := mkWord hi lo, p := Flags.ofByte f } ∧ t.cfg = s.cfg ∧
      t.mem = s.mem ∧
      (Plain s.cfg (stackAt s.cfg (s.cpu.s + 1)) → f = s.peek (stackAt s.cfg (s.cpu.s + 1))) ∧
      (Plain s.cfg (stackAt s.cfg (s.cpu.s + 2)) → lo = s.peek (stackAt s.cfg (s.cpu.s + 2))) ∧
      (Plain s.cfg (stackAt s.cfg (s.cpu.s + 3)) → hi = s.peek (stackAt s.cfg (s.cpu.s + 3))) ∧ AtBoundary t := by
  have e2 : s.cpu.s + 1 + 1 = s.cpu.s + 2 := by bv_omega
  have e3 : s.cpu.s + 2 + 1 = s.cpu.s + 3 := by bv_omega
  obtain ⟨a, ha⟩ : ∃ a, a = pullStart s := ⟨_, rfl⟩
  have a1 : a.regs = { s.regs with s := s.cpu.s + 1 } := by rw [ha, pullStart_regs]
  have a2 : a.cfg = s.cfg := by rw [ha, pullStart_cfg]
  have a3 : a.mem = s.mem := by rw [ha, pullStart_mem]
  obtain ⟨p, hp⟩ : ∃ p, p = pullNext a := ⟨_, rfl⟩
  obtain ⟨b0, b1, b2, b3, -⟩ := pullNext_all a
  rw [← hp] at b0 b1 b2 b3
  have as : a.cpu.s = s.cpu.s + 1 := congrArg Regs.s a1
  rw [as, e2, a1] at b1
  obtain ⟨c, hc⟩ : ∃ c, c = p.2.setP (Flags.ofByte p.1) := ⟨_, rfl⟩
  have c1 : c.regs = { s.regs with s := s.cpu.s + 2, p := Flags.ofByte p.1 } := by rw [hc, State.setP_regs, b1]
  have c2 : c.cfg = s.cfg := by rw [hc]; exact b2.trans a2
  have c3 : c.mem = s.mem := by rw [hc]; exact b3.trans a3
  obtain ⟨l, hl⟩ : ∃ l, l = pullNext c := ⟨_, rfl⟩
  obtain ⟨d0, d1, d2, d3, -⟩ := pullNext_all c
  rw [← hl] at d0 d1 d2 d3
  have cs : c.cpu.s = s.cpu.s + 2 := congrArg Regs.s c1
  rw [cs, e3, c1] at d1
  have he : returnFromInterrupt s = finish ((pullRead l.2).2.setPc (mkWord (pullRead l.2).1 l.1)) := by
    rw [hl, hc, hp, ha]; rfl
  have key : ∀ (u : State) (k : Byte), u.cpu.s = k → u.cfg = s.cfg → u.mem = s.mem → Plain s.cfg (stackAt s.cfg k) →
      (pullRead u).1 = s.peek (stackAt s.cfg k) := by
    intro u k hk hu hm h
    rw [((pullRead_all u).2.2.2 (by rw [hk, hu]; exact h)).1, hk, hu]
    simp [State.peek, hm]
  clear hc hl hp ha
  refine ⟨_, p.1, l.1, (pullRead l.2).1, he, ?_, ?_, ?_, ?_, ?_, ?_, State.boundary_atBoundary _⟩
  · rw [State.boundary_regs, State.setPc_regs, (pullRead_all l.2).1, d1]
  · rw [State.boundary_cfg, State.setPc_cfg]
    exact (pullRead_all l.2).2.1.trans (d2.trans c2)
  · rw [State.boundary_mem, State.setPc_mem]
    exact (pullRead_all l.2).2.2.1.trans (d3.trans c3)
  · rw [b0]
    exact key a _ as a2 a3
  · rw [d0]
    exact key c _ cs c2 c3
  · exact key l.2 _ (congrArg Regs.s d1) (d2.trans c2) (d3.trans c3)

/-! ### Branches and read-modify-write -/

/-- The common branch rule always completes, at the target when the condition holds. -/
theorem branchOp_next (cond : Bool) (off : Byte) (s : State) :
    ∃ t, branchOp cond off s = .next t ∧
      t.regs = { s.regs with pc := if cond then branchTarget off s else s.cpu.pc } ∧ t.cfg = s.cfg ∧ t.mem = s.mem ∧
      AtBoundary t := by
  cases cond with
  | false => exact ⟨_, rfl, rfl, rfl, rfl, State.boundary_atBoundary _⟩
  | true =>
    by_cases h : hiByte (branchTarget off s) = hiByte s.cpu.pc
    · refine ⟨_, by simp only [branchOp, Bool.not_true, Bool.false_eq_true, if_false, h, if_true]; rfl, ?_, ?_, ?_,
        State.boundary_atBoundary _⟩ <;> simp
    · refine ⟨_, by simp only [branchOp, Bool.not_true, Bool.false_eq_true, if_false, h]; rfl, ?_, ?_, ?_,
        State.boundary_atBoundary _⟩ <;> simp

/-- A read-modify-write instruction completes when its two writes are accepted. -/
theorem rmwOp_next (m : Operand) (op : Byte → Flags → ByteResult) (s : State) (hm : Memory.wf s.mem = true)
    (h1 : Accepts s.cfg (effAddr true m s).1 (readCycle (effAddr true m s).1 (effAddr true m s).2).1 = true)
    (h2 : Accepts s.cfg (effAddr true m s).1
      (op (readCycle (effAddr true m s).1 (effAddr true m s).2).1 s.cpu.p).r = true) :
    ∃ t, rmwOp m op s = .next t ∧
      t.regs = { s.regs with p := (op (readCycle (effAddr true m s).1 (effAddr true m s).2).1 s.cpu.p).p } ∧
      t.cfg = s.cfg ∧ Memory.wf t.mem = true ∧
      (∀ b, t.peek b = stored s.cfg (effAddr true m s).1
        (op (readCycle (effAddr true m s).1 (effAddr true m s).2).1 s.cpu.p).r s.peek b) ∧ AtBoundary t := by
  have hr := effAddr_reads true m s
  generalize he : effAddr true m s = e at *
  generalize hq : readCycle e.1 e.2 = q at *
  have q1 : q.2.regs = s.regs := by rw [← hq]; simpa using hr.regs
  have q2 : q.2.cfg = s.cfg := by rw [← hq]; simpa using hr.cfg
  have q3 : q.2.mem = s.mem := by rw [← hq]; simpa using hr.mem
  obtain ⟨t, a1, a2, a3, -, a5, a6, -⟩ := writeCycle_next e.1 q.1 (q.2.setOpnd q.1) (by simpa [q3] using hm)
    (by simpa [q2] using h1)
  simp only [State.setOpnd_regs, State.setOpnd_cfg, q1, q2] at a2 a3 a6
  have tp : t.cpu.p = s.cpu.p := (cpu_of_regs _ _ a2).2.2.2.2.2.1
  obtain ⟨u, b1, b2, b3, -, b5, b6, -⟩ := writeCycle_next e.1 (op q.1 s.cpu.p).r (t.setP (op q.1 s.cpu.p).p)
    (by simpa using a5) (by simpa [a3] using h2)
  refine ⟨u.boundary, ?_, ?_, by simpa [a3] using b3, by simpa using b5, ?_, State.boundary_atBoundary _⟩
  · simp only [rmwOp, he, hq, a1, andThen, tp, b1, finish]
  · rw [State.boundary_regs, b2, State.setP_regs, a2]
  · intro b
    rw [State.boundary_peek, b6]
    simp only [State.setP_cfg, State.setP_peek, stored, a3, a6]
    have hp : (q.2.setOpnd q.1).peek b = s.peek b := by simp [State.peek, q3]
    by_cases hb : target s.cfg e.1 = .ram ∧ b = e.1
    · simp [hb]
    · simp only [hb, if_false, hp]

end Sys2Proof.Machine
end

