-- ==== Sys2Proof/Tests/Slice0.lean ====
section
/-! SUPPORT. The tests: what WellFormed refuses, words written out from the encoding tables, the vectors of
95_test_vectors.md that one step can show, and for every statement with hypotheses a state and operands that meet
  them. -/

namespace Sys2Proof.Tests

open Sys2Proof Sys2Proof.Machine

set_option maxRecDepth 20000

/-! ### Helpers -/

/-- The next state, when there is one. -/
def after (o : Host.Outcome State Fault Refusal) : Option State :=
  match o with
  | .next t => some t
  | .fault _ => none
  | .refused _ => none

/-- The reason, when the outcome is a refusal. -/
def reason (o : Host.Outcome State Fault Refusal) : Option Refusal :=
  match o with
  | .next _ => none
  | .fault _ => none
  | .refused r => some r

/-- The registers and the bus cycles of the next state. -/
def seen (o : Host.Outcome State Fault Refusal) : Option (Regs × List BusCycle) := (after o).map fun t => (t.regs,
  t.bus)

/-- The reset state with these registers and this memory. -/
def cpuAt (a x y sp : Byte) (pc : Word) (p : Flags) (mem : List (Nat × Byte)) : State :=
  { State.reset with cpu := { State.reset.cpu with a := a, x := x, y := y, s := sp, pc := pc, p := p }, mem := mem }

/-! ### WellFormed refuses a command with another command's fixed bits (R166) -/

theorem test_ill_formed_restore : ¬ (Instr.fdcCmdRestore 0x10).WellFormed := by decide
theorem test_ill_formed_seek : ¬ (Instr.fdcCmdSeek 0x0F).WellFormed := by decide
theorem test_ill_formed_step : ¬ (Instr.fdcCmdStep 0x40).WellFormed := by decide
theorem test_ill_formed_step_in : ¬ (Instr.fdcCmdStepIn 0x60).WellFormed := by decide
theorem test_ill_formed_step_out : ¬ (Instr.fdcCmdStepOut 0x80).WellFormed := by decide
theorem test_ill_formed_read_sector : ¬ (Instr.fdcCmdReadSector 0xA0).WellFormed := by decide
theorem test_ill_formed_write_sector : ¬ (Instr.fdcCmdWriteSector 0x9F).WellFormed := by decide
theorem test_ill_formed_read_address : ¬ (Instr.fdcCmdReadAddress 0xD0).WellFormed := by decide
theorem test_ill_formed_force_interrupt : ¬ (Instr.fdcCmdForceInterrupt 0xC0).WellFormed := by decide
theorem test_ill_formed_read_track : ¬ (Instr.fdcCmdReadTrack 0xF0).WellFormed := by decide
theorem test_ill_formed_write_track : ¬ (Instr.fdcCmdWriteTrack 0xEF).WellFormed := by decide

/-! ### Decoding, from the tables of 30_encoding.md -/

/-- Opcodes $00 to $1F (R141, R143, R144): the low operand byte comes first. -/
theorem test_decode_cpu_00_to_1f :
    decode (.cpu [0x00]) = .ok (.brk) ∧ decode (.cpu [0x01, 0x81]) = .ok (.oraIndx 0x81) ∧
    decode (.cpu [0x05, 0x81]) = .ok (.oraZp 0x81) ∧ decode (.cpu [0x06, 0x81]) = .ok (.aslZp 0x81) ∧
    decode (.cpu [0x08]) = .ok (.php) ∧ decode (.cpu [0x09, 0x7E]) = .ok (.oraImm 0x7E) ∧
    decode (.cpu [0x0A]) = .ok (.aslAcc) ∧ decode (.cpu [0x0D, 0x34, 0x92]) = .ok (.oraAbs 0x9234) ∧
    decode (.cpu [0x0E, 0x34, 0x92]) = .ok (.aslAbs 0x9234) ∧ decode (.cpu [0x10, 0xFB]) = .ok (.bpl 0xFB) ∧
    decode (.cpu [0x11, 0x81]) = .ok (.oraIndy 0x81) ∧ decode (.cpu [0x15, 0x81]) = .ok (.oraZpx 0x81) ∧
    decode (.cpu [0x16, 0x81]) = .ok (.aslZpx 0x81) ∧ decode (.cpu [0x18]) = .ok (.clc) ∧
    decode (.cpu [0x19, 0x34, 0x92]) = .ok (.oraAbsy 0x9234) ∧
    decode (.cpu [0x1D, 0x34, 0x92]) = .ok (.oraAbsx 0x9234) ∧
    decode (.cpu [0x1E, 0x34, 0x92]) = .ok (.aslAbsx 0x9234) :=
  ⟨rfl, rfl, rfl, rfl, rfl, rfl, rfl, rfl, rfl, rfl, rfl, rfl, rfl, rfl, rfl, rfl, rfl⟩

/-- Opcodes $20 to $3F (R141, R143, R144): the low operand byte comes first. -/
theorem test_decode_cpu_20_to_3f :
    decode (.cpu [0x20, 0x34, 0x92]) = .ok (.jsrAbs 0x9234) ∧ decode (.cpu [0x21, 0x81]) = .ok (.andIndx 0x81) ∧
    decode (.cpu [0x24, 0x81]) = .ok (.bitZp 0x81) ∧ decode (.cpu [0x25, 0x81]) = .ok (.andZp 0x81) ∧
    decode (.cpu [0x26, 0x81]) = .ok (.rolZp 0x81) ∧ decode (.cpu [0x28]) = .ok (.plp) ∧
    decode (.cpu [0x29, 0x7E]) = .ok (.andImm 0x7E) ∧ decode (.cpu [0x2A]) = .ok (.rolAcc) ∧
    decode (.cpu [0x2C, 0x34, 0x92]) = .ok (.bitAbs 0x9234) ∧
    decode (.cpu [0x2D, 0x34, 0x92]) = .ok (.andAbs 0x9234) ∧
    decode (.cpu [0x2E, 0x34, 0x92]) = .ok (.rolAbs 0x9234) ∧ decode (.cpu [0x30, 0xFB]) = .ok (.bmi 0xFB) ∧
    decode (.cpu [0x31, 0x81]) = .ok (.andIndy 0x81) ∧ decode (.cpu [0x35, 0x81]) = .ok (.andZpx 0x81) ∧
    decode (.cpu [0x36, 0x81]) = .ok (.rolZpx 0x81) ∧ decode (.cpu [0x38]) = .ok (.sec) ∧
    decode (.cpu [0x39, 0x34, 0x92]) = .ok (.andAbsy 0x9234) ∧
    decode (.cpu [0x3D, 0x34, 0x92]) = .ok (.andAbsx 0x9234) ∧
    decode (.cpu [0x3E, 0x34, 0x92]) = .ok (.rolAbsx 0x9234) :=
  ⟨rfl, rfl, rfl, rfl, rfl, rfl, rfl, rfl, rfl, rfl, rfl, rfl, rfl, rfl, rfl, rfl, rfl, rfl, rfl⟩

/-- Opcodes $40 to $5F (R141, R143, R144): the low operand byte comes first. -/
theorem test_decode_cpu_40_to_5f :
    decode (.cpu [0x40]) = .ok (.rti) ∧ decode (.cpu [0x41, 0x81]) = .ok (.eorIndx 0x81) ∧
    decode (.cpu [0x45, 0x81]) = .ok (.eorZp 0x81) ∧ decode (.cpu [0x46, 0x81]) = .ok (.lsrZp 0x81) ∧
    decode (.cpu [0x48]) = .ok (.pha) ∧ decode (.cpu [0x49, 0x7E]) = .ok (.eorImm 0x7E) ∧
    decode (.cpu [0x4A]) = .ok (.lsrAcc) ∧ decode (.cpu [0x4C, 0x34, 0x92]) = .ok (.jmpAbs 0x9234) ∧
    decode (.cpu [0x4D, 0x34, 0x92]) = .ok (.eorAbs 0x9234) ∧
    decode (.cpu [0x4E, 0x34, 0x92]) = .ok (.lsrAbs 0x9234) ∧ decode (.cpu [0x50, 0xFB]) = .ok (.bvc 0xFB) ∧
    decode (.cpu [0x51, 0x81]) = .ok (.eorIndy 0x81) ∧ decode (.cpu [0x55, 0x81]) = .ok (.eorZpx 0x81) ∧
    decode (.cpu [0x56, 0x81]) = .ok (.lsrZpx 0x81) ∧ decode (.cpu [0x58]) = .ok (.cli) ∧
    decode (.cpu [0x59, 0x34, 0x92]) = .ok (.eorAbsy 0x9234) ∧
    decode (.cpu [0x5D, 0x34, 0x92]) = .ok (.eorAbsx 0x9234) ∧
    decode (.cpu [0x5E, 0x34, 0x92]) = .ok (.lsrAbsx 0x9234) :=
  ⟨rfl, rfl, rfl, rfl, rfl, rfl, rfl, rfl, rfl, rfl, rfl, rfl, rfl, rfl, rfl, rfl, rfl, rfl⟩

/-- Opcodes $60 to $7F (R141, R143, R144): the low operand byte comes first. -/
theorem test_decode_cpu_60_to_7f :
    decode (.cpu [0x60]) = .ok (.rts) ∧ decode (.cpu [0x61, 0x81]) = .ok (.adcIndx 0x81) ∧
    decode (.cpu [0x65, 0x81]) = .ok (.adcZp 0x81) ∧ decode (.cpu [0x66, 0x81]) = .ok (.rorZp 0x81) ∧
    decode (.cpu [0x68]) = .ok (.pla) ∧ decode (.cpu [0x69, 0x7E]) = .ok (.adcImm 0x7E) ∧
    decode (.cpu [0x6A]) = .ok (.rorAcc) ∧ decode (.cpu [0x6C, 0x34, 0x92]) = .ok (.jmpInd 0x9234) ∧
    decode (.cpu [0x6D, 0x34, 0x92]) = .ok (.adcAbs 0x9234) ∧
    decode (.cpu [0x6E, 0x34, 0x92]) = .ok (.rorAbs 0x9234) ∧ decode (.cpu [0x70, 0xFB]) = .ok (.bvs 0xFB) ∧
    decode (.cpu [0x71, 0x81]) = .ok (.adcIndy 0x81) ∧ decode (.cpu [0x75, 0x81]) = .ok (.adcZpx 0x81) ∧
    decode (.cpu [0x76, 0x81]) = .ok (.rorZpx 0x81) ∧ decode (.cpu [0x78]) = .ok (.sei) ∧
    decode (.cpu [0x79, 0x34, 0x92]) = .ok (.adcAbsy 0x9234) ∧
    decode (.cpu [0x7D, 0x34, 0x92]) = .ok (.adcAbsx 0x9234) ∧
    decode (.cpu [0x7E, 0x34, 0x92]) = .ok (.rorAbsx 0x9234) :=
  ⟨rfl, rfl, rfl, rfl, rfl, rfl, rfl, rfl, rfl, rfl, rfl, rfl, rfl, rfl, rfl, rfl, rfl, rfl⟩

/-- Opcodes $80 to $9F (R141, R143, R144): the low operand byte comes first. -/
theorem test_decode_cpu_80_to_9f :
    decode (.cpu [0x81, 0x81]) = .ok (.staIndx 0x81) ∧ decode (.cpu [0x84, 0x81]) = .ok (.styZp 0x81) ∧
    decode (.cpu [0x85, 0x81]) = .ok (.staZp 0x81) ∧ decode (.cpu [0x86, 0x81]) = .ok (.stxZp 0x81) ∧
    decode (.cpu [0x88]) = .ok (.dey) ∧ decode (.cpu [0x8A]) = .ok (.txa) ∧
    decode (.cpu [0x8C, 0x34, 0x92]) = .ok (.styAbs 0x9234) ∧
    decode (.cpu [0x8D, 0x34, 0x92]) = .ok (.staAbs 0x9234) ∧
    decode (.cpu [0x8E, 0x34, 0x92]) = .ok (.stxAbs 0x9234) ∧ decode (.cpu [0x90, 0xFB]) = .ok (.bcc 0xFB) ∧
    decode (.cpu [0x91, 0x81]) = .ok (.staIndy 0x81) ∧ decode (.cpu [0x94, 0x81]) = .ok (.styZpx 0x81) ∧
    decode (.cpu [0x95, 0x81]) = .ok (.staZpx 0x81) ∧ decode (.cpu [0x96, 0x81]) = .ok (.stxZpy 0x81) ∧
    decode (.cpu [0x98]) = .ok (.tya) ∧ decode (.cpu [0x99, 0x34, 0x92]) = .ok (.staAbsy 0x9234) ∧
    decode (.cpu [0x9A]) = .ok (.txs) ∧ decode (.cpu [0x9D, 0x34, 0x92]) = .ok (.staAbsx 0x9234) :=
  ⟨rfl, rfl, rfl, rfl, rfl, rfl, rfl, rfl, rfl, rfl, rfl, rfl, rfl, rfl, rfl, rfl, rfl, rfl⟩

/-- Opcodes $A0 to $BF (R141, R143, R144): the low operand byte comes first. -/
theorem test_decode_cpu_a0_to_bf :
    decode (.cpu [0xA0, 0x7E]) = .ok (.ldyImm 0x7E) ∧ decode (.cpu [0xA1, 0x81]) = .ok (.ldaIndx 0x81) ∧
    decode (.cpu [0xA2, 0x7E]) = .ok (.ldxImm 0x7E) ∧ decode (.cpu [0xA4, 0x81]) = .ok (.ldyZp 0x81) ∧
    decode (.cpu [0xA5, 0x81]) = .ok (.ldaZp 0x81) ∧ decode (.cpu [0xA6, 0x81]) = .ok (.ldxZp 0x81) ∧
    decode (.cpu [0xA8]) = .ok (.tay) ∧ decode (.cpu [0xA9, 0x7E]) = .ok (.ldaImm 0x7E) ∧
    decode (.cpu [0xAA]) = .ok (.tax) ∧ decode (.cpu [0xAC, 0x34, 0x92]) = .ok (.ldyAbs 0x9234) ∧
    decode (.cpu [0xAD, 0x34, 0x92]) = .ok (.ldaAbs 0x9234) ∧
    decode (.cpu [0xAE, 0x34, 0x92]) = .ok (.ldxAbs 0x9234) ∧ decode (.cpu [0xB0, 0xFB]) = .ok (.bcs 0xFB) ∧
    decode (.cpu [0xB1, 0x81]) = .ok (.ldaIndy 0x81) ∧ decode (.cpu [0xB4, 0x81]) = .ok (.ldyZpx 0x81) ∧
    decode (.cpu [0xB5, 0x81]) = .ok (.ldaZpx 0x81) ∧ decode (.cpu [0xB6, 0x81]) = .ok (.ldxZpy 0x81) ∧
    decode (.cpu [0xB8]) = .ok (.clv) ∧ decode (.cpu [0xB9, 0x34, 0x92]) = .ok (.ldaAbsy 0x9234) ∧
    decode (.cpu [0xBA]) = .ok (.tsx) ∧ decode (.cpu [0xBC, 0x34, 0x92]) = .ok (.ldyAbsx 0x9234) ∧
    decode (.cpu [0xBD, 0x34, 0x92]) = .ok (.ldaAbsx 0x9234) ∧
    decode (.cpu [0xBE, 0x34, 0x92]) = .ok (.ldxAbsy 0x9234) :=
  ⟨rfl, rfl, rfl, rfl, rfl, rfl, rfl, rfl, rfl, rfl, rfl, rfl, rfl, rfl, rfl, rfl, rfl, rfl, rfl, rfl, rfl, rfl,
    rfl⟩

/-- Opcodes $C0 to $DF (R141, R143, R144): the low operand byte comes first. -/
theorem test_decode_cpu_c0_to_df :
    decode (.cpu [0xC0, 0x7E]) = .ok (.cpyImm 0x7E) ∧ decode (.cpu [0xC1, 0x81]) = .ok (.cmpIndx 0x81) ∧
    decode (.cpu [0xC4, 0x81]) = .ok (.cpyZp 0x81) ∧ decode (.cpu [0xC5, 0x81]) = .ok (.cmpZp 0x81) ∧
    decode (.cpu [0xC6, 0x81]) = .ok (.decZp 0x81) ∧ decode (.cpu [0xC8]) = .ok (.iny) ∧
    decode (.cpu [0xC9, 0x7E]) = .ok (.cmpImm 0x7E) ∧ decode (.cpu [0xCA]) = .ok (.dex) ∧
    decode (.cpu [0xCC, 0x34, 0x92]) = .ok (.cpyAbs 0x9234) ∧
    decode (.cpu [0xCD, 0x34, 0x92]) = .ok (.cmpAbs 0x9234) ∧
    decode (.cpu [0xCE, 0x34, 0x92]) = .ok (.decAbs 0x9234) ∧ decode (.cpu [0xD0, 0xFB]) = .ok (.bne 0xFB) ∧
    decode (.cpu [0xD1, 0x81]) = .ok (.cmpIndy 0x81) ∧ decode (.cpu [0xD5, 0x81]) = .ok (.cmpZpx 0x81) ∧
    decode (.cpu [0xD6, 0x81]) = .ok (.decZpx 0x81) ∧ decode (.cpu [0xD8]) = .ok (.cld) ∧
    decode (.cpu [0xD9, 0x34, 0x92]) = .ok (.cmpAbsy 0x9234) ∧
    decode (.cpu [0xDD, 0x34, 0x92]) = .ok (.cmpAbsx 0x9234) ∧
    decode (.cpu [0xDE, 0x34, 0x92]) = .ok (.decAbsx 0x9234) :=
  ⟨rfl, rfl, rfl, rfl, rfl, rfl, rfl, rfl, rfl, rfl, rfl, rfl, rfl, rfl, rfl, rfl, rfl, rfl, rfl⟩

/-- Opcodes $E0 to $FF (R141, R143, R144): the low operand byte comes first. -/
theorem test_decode_cpu_e0_to_ff :
    decode (.cpu [0xE0, 0x7E]) = .ok (.cpxImm 0x7E) ∧ decode (.cpu [0xE1, 0x81]) = .ok (.sbcIndx 0x81) ∧
    decode (.cpu [0xE4, 0x81]) = .ok (.cpxZp 0x81) ∧ decode (.cpu [0xE5, 0x81]) = .ok (.sbcZp 0x81) ∧
    decode (.cpu [0xE6, 0x81]) = .ok (.incZp 0x81) ∧ decode (.cpu [0xE8]) = .ok (.inx) ∧
    decode (.cpu [0xE9, 0x7E]) = .ok (.sbcImm 0x7E) ∧ decode (.cpu [0xEA]) = .ok (.nop) ∧
    decode (.cpu [0xEC, 0x34, 0x92]) = .ok (.cpxAbs 0x9234) ∧
    decode (.cpu [0xED, 0x34, 0x92]) = .ok (.sbcAbs 0x9234) ∧
    decode (.cpu [0xEE, 0x34, 0x92]) = .ok (.incAbs 0x9234) ∧ decode (.cpu [0xF0, 0xFB]) = .ok (.beq 0xFB) ∧
    decode (.cpu [0xF1, 0x81]) = .ok (.sbcIndy 0x81) ∧ decode (.cpu [0xF5, 0x81]) = .ok (.sbcZpx 0x81) ∧
    decode (.cpu [0xF6, 0x81]) = .ok (.incZpx 0x81) ∧ decode (.cpu [0xF8]) = .ok (.sed) ∧
    decode (.cpu [0xF9, 0x34, 0x92]) = .ok (.sbcAbsy 0x9234) ∧
    decode (.cpu [0xFD, 0x34, 0x92]) = .ok (.sbcAbsx 0x9234) ∧
    decode (.cpu [0xFE, 0x34, 0x92]) = .ok (.incAbsx 0x9234) :=
  ⟨rfl, rfl, rfl, rfl, rfl, rfl, rfl, rfl, rfl, rfl, rfl, rfl, rfl, rfl, rfl, rfl, rfl, rfl, rfl⟩

/-- The reserved opcodes from $00 to $7F (R147). -/
theorem test_decode_reserved_00_to_7f :
    decode (.cpu [0x02]) = .ok (.reserved02) ∧ decode (.cpu [0x03]) = .ok (.reserved03) ∧
    decode (.cpu [0x04]) = .ok (.reserved04) ∧ decode (.cpu [0x07]) = .ok (.reserved07) ∧
    decode (.cpu [0x0B]) = .ok (.reserved0B) ∧ decode (.cpu [0x0C]) = .ok (.reserved0C) ∧
    decode (.cpu [0x0F]) = .ok (.reserved0F) ∧ decode (.cpu [0x12]) = .ok (.reserved12) ∧
    decode (.cpu [0x13]) = .ok (.reserved13) ∧ decode (.cpu [0x14]) = .ok (.reserved14) ∧
    decode (.cpu [0x17]) = .ok (.reserved17) ∧ decode (.cpu [0x1A]) = .ok (.reserved1A) ∧
    decode (.cpu [0x1B]) = .ok (.reserved1B) ∧ decode (.cpu [0x1C]) = .ok (.reserved1C) ∧
    decode (.cpu [0x1F]) = .ok (.reserved1F) ∧ decode (.cpu [0x22]) = .ok (.reserved22) ∧
    decode (.cpu [0x23]) = .ok (.reserved23) ∧ decode (.cpu [0x27]) = .ok (.reserved27) ∧
    decode (.cpu [0x2B]) = .ok (.reserved2B) ∧ decode (.cpu [0x2F]) = .ok (.reserved2F) ∧
    decode (.cpu [0x32]) = .ok (.reserved32) ∧ decode (.cpu [0x33]) = .ok (.reserved33) ∧
    decode (.cpu [0x34]) = .ok (.reserved34) ∧ decode (.cpu [0x37]) = .ok (.reserved37) ∧
    decode (.cpu [0x3A]) = .ok (.reserved3A) ∧ decode (.cpu [0x3B]) = .ok (.reserved3B) ∧
    decode (.cpu [0x3C]) = .ok (.reserved3C) ∧ decode (.cpu [0x3F]) = .ok (.reserved3F) ∧
    decode (.cpu [0x42]) = .ok (.reserved42) ∧ decode (.cpu [0x43]) = .ok (.reserved43) ∧
    decode (.cpu [0x44]) = .ok (.reserved44) ∧ decode (.cpu [0x47]) = .ok (.reserved47) ∧
    decode (.cpu [0x4B]) = .ok (.reserved4B) ∧ decode (.cpu [0x4F]) = .ok (.reserved4F) ∧
    decode (.cpu [0x52]) = .ok (.reserved52) ∧ decode (.cpu [0x53]) = .ok (.reserved53) ∧
    decode (.cpu [0x54]) = .ok (.reserved54) ∧ decode (.cpu [0x57]) = .ok (.reserved57) ∧
    decode (.cpu [0x5A]) = .ok (.reserved5A) ∧ decode (.cpu [0x5B]) = .ok (.reserved5B) ∧
    decode (.cpu [0x5C]) = .ok (.reserved5C) ∧ decode (.cpu [0x5F]) = .ok (.reserved5F) ∧
    decode (.cpu [0x62]) = .ok (.reserved62) ∧ decode (.cpu [0x63]) = .ok (.reserved63) ∧
    decode (.cpu [0x64]) = .ok (.reserved64) ∧ decode (.cpu [0x67]) = .ok (.reserved67) ∧
    decode (.cpu [0x6B]) = .ok (.reserved6B) ∧ decode (.cpu [0x6F]) = .ok (.reserved6F) ∧
    decode (.cpu [0x72]) = .ok (.reserved72) ∧ decode (.cpu [0x73]) = .ok (.reserved73) ∧
    decode (.cpu [0x74]) = .ok (.reserved74) ∧ decode (.cpu [0x77]) = .ok (.reserved77) ∧
    decode (.cpu [0x7A]) = .ok (.reserved7A) ∧ decode (.cpu [0x7B]) = .ok (.reserved7B) ∧
    decode (.cpu [0x7C]) = .ok (.reserved7C) ∧ decode (.cpu [0x7F]) = .ok (.reserved7F) :=
  ⟨rfl, rfl, rfl, rfl, rfl, rfl, rfl, rfl, rfl, rfl, rfl, rfl, rfl, rfl, rfl, rfl, rfl, rfl, rfl, rfl, rfl, rfl,
    rfl, rfl, rfl, rfl, rfl, rfl, rfl, rfl, rfl, rfl, rfl, rfl, rfl, rfl, rfl, rfl, rfl, rfl, rfl, rfl, rfl,
    rfl, rfl, rfl, rfl, rfl, rfl, rfl, rfl, rfl, rfl, rfl, rfl, rfl⟩

/-- The reserved opcodes from $80 to $FF (R147). -/
theorem test_decode_reserved_80_to_ff :
    decode (.cpu [0x80]) = .ok (.reserved80) ∧ decode (.cpu [0x82]) = .ok (.reserved82) ∧
    decode (.cpu [0x83]) = .ok (.reserved83) ∧ decode (.cpu [0x87]) = .ok (.reserved87) ∧
    decode (.cpu [0x89]) = .ok (.reserved89) ∧ decode (.cpu [0x8B]) = .ok (.reserved8B) ∧
    decode (.cpu [0x8F]) = .ok (.reserved8F) ∧ decode (.cpu [0x92]) = .ok (.reserved92) ∧
    decode (.cpu [0x93]) = .ok (.reserved93) ∧ decode (.cpu [0x97]) = .ok (.reserved97) ∧
    decode (.cpu [0x9B]) = .ok (.reserved9B) ∧ decode (.cpu [0x9C]) = .ok (.reserved9C) ∧
    decode (.cpu [0x9E]) = .ok (.reserved9E) ∧ decode (.cpu [0x9F]) = .ok (.reserved9F) ∧
    decode (.cpu [0xA3]) = .ok (.reservedA3) ∧ decode (.cpu [0xA7]) = .ok (.reservedA7) ∧
    decode (.cpu [0xAB]) = .ok (.reservedAB) ∧ decode (.cpu [0xAF]) = .ok (.reservedAF) ∧
    decode (.cpu [0xB2]) = .ok (.reservedB2) ∧ decode (.cpu [0xB3]) = .ok (.reservedB3) ∧
    decode (.cpu [0xB7]) = .ok (.reservedB7) ∧ decode (.cpu [0xBB]) = .ok (.reservedBB) ∧
    decode (.cpu [0xBF]) = .ok (.reservedBF) ∧ decode (.cpu [0xC2]) = .ok (.reservedC2) ∧
    decode (.cpu [0xC3]) = .ok (.reservedC3) ∧ decode (.cpu [0xC7]) = .ok (.reservedC7) ∧
    decode (.cpu [0xCB]) = .ok (.reservedCB) ∧ decode (.cpu [0xCF]) = .ok (.reservedCF) ∧
    decode (.cpu [0xD2]) = .ok (.reservedD2) ∧ decode (.cpu [0xD3]) = .ok (.reservedD3) ∧
    decode (.cpu [0xD4]) = .ok (.reservedD4) ∧ decode (.cpu [0xD7]) = .ok (.reservedD7) ∧
    decode (.cpu [0xDA]) = .ok (.reservedDA) ∧ decode (.cpu [0xDB]) = .ok (.reservedDB) ∧
    decode (.cpu [0xDC]) = .ok (.reservedDC) ∧ decode (.cpu [0xDF]) = .ok (.reservedDF) ∧
    decode (.cpu [0xE2]) = .ok (.reservedE2) ∧ decode (.cpu [0xE3]) = .ok (.reservedE3) ∧
    decode (.cpu [0xE7]) = .ok (.reservedE7) ∧ decode (.cpu [0xEB]) = .ok (.reservedEB) ∧
    decode (.cpu [0xEF]) = .ok (.reservedEF) ∧ decode (.cpu [0xF2]) = .ok (.reservedF2) ∧
    decode (.cpu [0xF3]) = .ok (.reservedF3) ∧ decode (.cpu [0xF4]) = .ok (.reservedF4) ∧
    decode (.cpu [0xF7]) = .ok (.reservedF7) ∧ decode (.cpu [0xFA]) = .ok (.reservedFA) ∧
    decode (.cpu [0xFB]) = .ok (.reservedFB) ∧ decode (.cpu [0xFC]) = .ok (.reservedFC) ∧
    decode (.cpu [0xFF]) = .ok (.reservedFF) :=
  ⟨rfl, rfl, rfl, rfl, rfl, rfl, rfl, rfl, rfl, rfl, rfl, rfl, rfl, rfl, rfl, rfl, rfl, rfl, rfl, rfl, rfl, rfl,
    rfl, rfl, rfl, rfl, rfl, rfl, rfl, rfl, rfl, rfl, rfl, rfl, rfl, rfl, rfl, rfl, rfl, rfl, rfl, rfl, rfl,
    rfl, rfl, rfl, rfl, rfl, rfl⟩

/-- The register numbers of the VIA (R160). -/
theorem test_decode_via :
    decode (.viaRead .user 0) = .ok (.viaReadOrb .user) ∧
    decode (.viaWrite .user 0 0xA5) = .ok (.viaWriteOrb .user 0xA5) ∧
    decode (.viaRead .system 1) = .ok (.viaReadOra .system) ∧
    decode (.viaWrite .system 1 0xA5) = .ok (.viaWriteOra .system 0xA5) ∧
    decode (.viaRead .user 2) = .ok (.viaReadDdrb .user) ∧
    decode (.viaWrite .user 2 0xA5) = .ok (.viaWriteDdrb .user 0xA5) ∧
    decode (.viaRead .system 3) = .ok (.viaReadDdra .system) ∧
    decode (.viaWrite .system 3 0xA5) = .ok (.viaWriteDdra .system 0xA5) ∧
    decode (.viaRead .user 4) = .ok (.viaReadT1cl .user) ∧
    decode (.viaWrite .user 4 0xA5) = .ok (.viaWriteT1cl .user 0xA5) ∧
    decode (.viaRead .system 5) = .ok (.viaReadT1ch .system) ∧
    decode (.viaWrite .system 5 0xA5) = .ok (.viaWriteT1ch .system 0xA5) ∧
    decode (.viaRead .user 6) = .ok (.viaReadT1ll .user) ∧
    decode (.viaWrite .user 6 0xA5) = .ok (.viaWriteT1ll .user 0xA5) ∧
    decode (.viaRead .system 7) = .ok (.viaReadT1lh .system) ∧
    decode (.viaWrite .system 7 0xA5) = .ok (.viaWriteT1lh .system 0xA5) ∧
    decode (.viaRead .user 8) = .ok (.viaReadT2cl .user) ∧
    decode (.viaWrite .user 8 0xA5) = .ok (.viaWriteT2cl .user 0xA5) ∧
    decode (.viaRead .system 9) = .ok (.viaReadT2ch .system) ∧
    decode (.viaWrite .system 9 0xA5) = .ok (.viaWriteT2ch .system 0xA5) ∧
    decode (.viaRead .user 10) = .ok (.viaReadSr .user) ∧
    decode (.viaWrite .user 10 0xA5) = .ok (.viaWriteSr .user 0xA5) ∧
    decode (.viaRead .system 11) = .ok (.viaReadAcr .system) ∧
    decode (.viaWrite .system 11 0xA5) = .ok (.viaWriteAcr .system 0xA5) ∧
    decode (.viaRead .user 12) = .ok (.viaReadPcr .user) ∧
    decode (.viaWrite .user 12 0xA5) = .ok (.viaWritePcr .user 0xA5) ∧
    decode (.viaRead .system 13) = .ok (.viaReadIfr .system) ∧
    decode (.viaWrite .system 13 0xA5) = .ok (.viaWriteIfr .system 0xA5) ∧
    decode (.viaRead .user 14) = .ok (.viaReadIer .user) ∧
    decode (.viaWrite .user 14 0xA5) = .ok (.viaWriteIer .user 0xA5) ∧
    decode (.viaRead .system 15) = .ok (.viaReadOraF .system) ∧
    decode (.viaWrite .system 15 0xA5) = .ok (.viaWriteOraF .system 0xA5) :=
  ⟨rfl, rfl, rfl, rfl, rfl, rfl, rfl, rfl, rfl, rfl, rfl, rfl, rfl, rfl, rfl, rfl, rfl, rfl, rfl, rfl, rfl, rfl,
    rfl, rfl, rfl, rfl, rfl, rfl, rfl, rfl, rfl, rfl⟩

/-- The register numbers and command bytes of the FDC (R165, R166). -/
theorem test_decode_fdc :
    decode (.fdcRead 0) = .ok (.fdcReadStatus) ∧ decode (.fdcWrite 0 0xA5) = .ok (.fdcWriteCommand 0xA5) ∧
    decode (.fdcRead 1) = .ok (.fdcReadTrack) ∧ decode (.fdcWrite 1 0xA5) = .ok (.fdcWriteTrack 0xA5) ∧
    decode (.fdcRead 2) = .ok (.fdcReadSector) ∧ decode (.fdcWrite 2 0xA5) = .ok (.fdcWriteSector 0xA5) ∧
    decode (.fdcRead 3) = .ok (.fdcReadData) ∧ decode (.fdcWrite 3 0xA5) = .ok (.fdcWriteData 0xA5) ∧
    decode (.fdcCommand 0x0A) = .ok (.fdcCmdRestore 0x0A) ∧ decode (.fdcCommand 0x1A) = .ok (.fdcCmdSeek 0x1A) ∧
    decode (.fdcCommand 0x2A) = .ok (.fdcCmdStep 0x2A) ∧ decode (.fdcCommand 0x4A) = .ok (.fdcCmdStepIn 0x4A) ∧
    decode (.fdcCommand 0x6A) = .ok (.fdcCmdStepOut 0x6A) ∧ decode (.fdcCommand 0x8A) = .ok (.fdcCmdReadSector 0x8A) ∧
    decode (.fdcCommand 0xAA) = .ok (.fdcCmdWriteSector 0xAA) ∧
    decode (.fdcCommand 0xCA) = .ok (.fdcCmdReadAddress 0xCA) ∧
    decode (.fdcCommand 0xDA) = .ok (.fdcCmdForceInterrupt 0xDA) ∧
    decode (.fdcCommand 0xEA) = .ok (.fdcCmdReadTrack 0xEA) ∧
    decode (.fdcCommand 0xFA) = .ok (.fdcCmdWriteTrack 0xFA) :=
  ⟨rfl, rfl, rfl, rfl, rfl, rfl, rfl, rfl, rfl, rfl, rfl, rfl, rfl, rfl, rfl, rfl, rfl, rfl, rfl⟩

/-- The register numbers of the Tube (R175). -/
theorem test_decode_tube :
    decode (.tubeRead .host 0) = .ok (.tubeHostRead0) ∧
    decode (.tubeWrite .host 0 0xA5) = .ok (.tubeHostWrite0 0xA5) ∧
    decode (.tubeRead .parasite 0) = .ok (.tubeParasiteRead0) ∧
    decode (.tubeWrite .parasite 0 0xA5) = .ok (.tubeParasiteWrite0 0xA5) ∧
    decode (.tubeRead .host 1) = .ok (.tubeHostRead1) ∧
    decode (.tubeWrite .host 1 0xA5) = .ok (.tubeHostWrite1 0xA5) ∧
    decode (.tubeRead .parasite 1) = .ok (.tubeParasiteRead1) ∧
    decode (.tubeWrite .parasite 1 0xA5) = .ok (.tubeParasiteWrite1 0xA5) ∧
    decode (.tubeRead .host 2) = .ok (.tubeHostRead2) ∧
    decode (.tubeWrite .host 2 0xA5) = .ok (.tubeHostWrite2 0xA5) ∧
    decode (.tubeRead .parasite 2) = .ok (.tubeParasiteRead2) ∧
    decode (.tubeWrite .parasite 2 0xA5) = .ok (.tubeParasiteWrite2 0xA5) ∧
    decode (.tubeRead .host 3) = .ok (.tubeHostRead3) ∧
    decode (.tubeWrite .host 3 0xA5) = .ok (.tubeHostWrite3 0xA5) ∧
    decode (.tubeRead .parasite 3) = .ok (.tubeParasiteRead3) ∧
    decode (.tubeWrite .parasite 3 0xA5) = .ok (.tubeParasiteWrite3 0xA5) ∧
    decode (.tubeRead .host 4) = .ok (.tubeHostRead4) ∧
    decode (.tubeWrite .host 4 0xA5) = .ok (.tubeHostWrite4 0xA5) ∧
    decode (.tubeRead .parasite 4) = .ok (.tubeParasiteRead4) ∧
    decode (.tubeWrite .parasite 4 0xA5) = .ok (.tubeParasiteWrite4 0xA5) ∧
    decode (.tubeRead .host 5) = .ok (.tubeHostRead5) ∧
    decode (.tubeWrite .host 5 0xA5) = .ok (.tubeHostWrite5 0xA5) ∧
    decode (.tubeRead .parasite 5) = .ok (.tubeParasiteRead5) ∧
    decode (.tubeWrite .parasite 5 0xA5) = .ok (.tubeParasiteWrite5 0xA5) ∧
    decode (.tubeRead .host 6) = .ok (.tubeHostRead6) ∧
    decode (.tubeWrite .host 6 0xA5) = .ok (.tubeHostWrite6 0xA5) ∧
    decode (.tubeRead .parasite 6) = .ok (.tubeParasiteRead6) ∧
    decode (.tubeWrite .parasite 6 0xA5) = .ok (.tubeParasiteWrite6 0xA5) ∧
    decode (.tubeRead .host 7) = .ok (.tubeHostRead7) ∧
    decode (.tubeWrite .host 7 0xA5) = .ok (.tubeHostWrite7 0xA5) ∧
    decode (.tubeRead .parasite 7) = .ok (.tubeParasiteRead7) ∧
    decode (.tubeWrite .parasite 7 0xA5) = .ok (.tubeParasiteWrite7 0xA5) :=
  ⟨rfl, rfl, rfl, rfl, rfl, rfl, rfl, rfl, rfl, rfl, rfl, rfl, rfl, rfl, rfl, rfl, rfl, rfl, rfl, rfl, rfl, rfl,
    rfl, rfl, rfl, rfl, rfl, rfl, rfl, rfl, rfl, rfl⟩

/-- Bytes that are no instruction are refused by name (R141). -/
theorem test_decode_refusals :
    decode (.cpu []) = .error .empty ∧ decode (.cpu [0xAD, 0x34]) = .error (.truncated 0xAD 2) ∧
    decode (.cpu [0xEA, 0xEA]) = .error (.trailing 0xEA) := ⟨rfl, rfl, rfl⟩

/-- `decodeTableWord` numbers the bits as the table does: the second byte is bits 15 to 8. -/
theorem test_table_word :
    decodeTableWord 16 0x42A9 = some (.ldaImm 0x42) ∧ decodeTableWord 8 0xAD = some (.ldaAbs 0x0000) ∧
    decodeTableWord 24 0x123420 = some (.jsrAbs 0x1234) := ⟨rfl, rfl, rfl⟩

/-! ### Reset and the first step -/

/-- The reset sequence of R608, run on the machine at power-on, gives `State.reset` (R28, R40, R56, R66, R650). -/
theorem test_reset_is_the_sequence : after (step State.powerOn) = some State.reset := by decide

/-- `withFetchWord` places the instruction the very next step runs. -/
theorem test_first_instruction :
    seen (step (State.reset.withFetchWord 16 0x42A9)) =
      some (⟨0x42, 0, 0, 0xFD, 0x0002, { i := true }, 0xA9⟩, [⟨0x0000, 0xA9, true⟩, ⟨0x0001, 0x42, true⟩]) := by
        decide

/-! ### One step of the CPU: vectors of 95_test_vectors.md, named by their numbers -/

theorem test_V101_lda_imm_zero :
    seen (step (cpuAt 0x55 0x00 0x00 0xFD 0x0200 { i := true } [(0x0200, 0xA9)])) =
      some (⟨0x00, 0x00, 0x00, 0xFD, 0x0202, { i := true, z := true }, 0xA9⟩, [⟨0x0200, 0xA9, true⟩, ⟨0x0201, 0x00,
        true⟩]) := by decide

theorem test_V102_lda_imm_minus :
    seen (step (cpuAt 0x00 0x00 0x00 0xFD 0x0200 { i := true } [(0x0200, 0xA9), (0x0201, 0x80)])) =
      some (⟨0x80, 0x00, 0x00, 0xFD, 0x0202, { n := true, i := true }, 0xA9⟩, [⟨0x0200, 0xA9, true⟩, ⟨0x0201, 0x80,
        true⟩]) := by decide

theorem test_V104_lda_zpx_wraps :
    seen (step (cpuAt 0x00 0xFF 0x00 0xFD 0x0200 { i := true } [(0x007F, 0x11), (0x017F, 0x22), (0x0200, 0xB5),
      (0x0201, 0x80)])) =
      some (⟨0x11, 0xFF, 0x00, 0xFD, 0x0202, { i := true }, 0xB5⟩, [⟨0x0200, 0xB5, true⟩, ⟨0x0201, 0x80, true⟩,
        ⟨0x0080, 0x00, true⟩, ⟨0x007F, 0x11, true⟩]) := by decide

theorem test_V105_ldx_zpy_wraps :
    seen (step (cpuAt 0x00 0x00 0x20 0xFD 0x0200 { i := true } [(0x0010, 0x99), (0x0200, 0xB6), (0x0201, 0xF0)])) =
      some (⟨0x00, 0x99, 0x20, 0xFD, 0x0202, { n := true, i := true }, 0xB6⟩, [⟨0x0200, 0xB6, true⟩, ⟨0x0201, 0xF0,
        true⟩, ⟨0x00F0, 0x00, true⟩, ⟨0x0010, 0x99, true⟩]) := by decide

theorem test_V108_lda_absx_crosses :
    seen (step (cpuAt 0x00 0x10 0x00 0xFD 0x0200 { i := true } [(0x0200, 0xBD), (0x0201, 0xF0), (0x0202, 0x12),
      (0x1200, 0xEE), (0x1300, 0x43)])) =
      some (⟨0x43, 0x10, 0x00, 0xFD, 0x0203, { i := true }, 0xBD⟩, [⟨0x0200, 0xBD, true⟩, ⟨0x0201, 0xF0, true⟩,
        ⟨0x0202, 0x12, true⟩, ⟨0x1200, 0xEE, true⟩, ⟨0x1300, 0x43, true⟩]) := by decide

theorem test_V109_lda_absy_wraps :
    seen (step (cpuAt 0x00 0x00 0x02 0xFD 0x0200 { i := true } [(0x0001, 0x77), (0x0200, 0xB9), (0x0201, 0xFF),
      (0x0202, 0xFF)])) =
      some (⟨0x77, 0x00, 0x02, 0xFD, 0x0203, { i := true }, 0xB9⟩, [⟨0x0200, 0xB9, true⟩, ⟨0x0201, 0xFF, true⟩,
        ⟨0x0202, 0xFF, true⟩, ⟨0xFF01, 0x00, true⟩, ⟨0x0001, 0x77, true⟩]) := by decide

theorem test_V111_lda_indx_wraps :
    seen (step (cpuAt 0x00 0x01 0x00 0xFD 0x0200 { i := true } [(0x0000, 0x12), (0x00FF, 0x34), (0x0100, 0x99),
      (0x0200, 0xA1), (0x0201, 0xFE), (0x1234, 0x5A)])) =
      some (⟨0x5A, 0x01, 0x00, 0xFD, 0x0202, { i := true }, 0xA1⟩, [⟨0x0200, 0xA1, true⟩, ⟨0x0201, 0xFE, true⟩,
        ⟨0x00FE, 0x00, true⟩, ⟨0x00FF, 0x34, true⟩, ⟨0x0000, 0x12, true⟩, ⟨0x1234, 0x5A, true⟩]) := by decide

theorem test_V112_lda_indy_wraps :
    seen (step (cpuAt 0x00 0x00 0x10 0xFD 0x0200 { i := true } [(0x0000, 0x20), (0x00FF, 0xF8), (0x0200, 0xB1),
      (0x0201, 0xFF), (0x2008, 0xEE), (0x2108, 0xA5)])) =
      some (⟨0xA5, 0x00, 0x10, 0xFD, 0x0202, { n := true, i := true }, 0xB1⟩, [⟨0x0200, 0xB1, true⟩, ⟨0x0201, 0xFF,
        true⟩, ⟨0x00FF, 0xF8, true⟩, ⟨0x0000, 0x20, true⟩, ⟨0x2008, 0xEE, true⟩, ⟨0x2108, 0xA5, true⟩]) := by decide

theorem test_V115_sta_absx :
    seen (step (cpuAt 0xAB 0x0F 0x00 0xFD 0x0200 { i := true } [(0x0200, 0x9D), (0x0201, 0xF0), (0x0202, 0x12)])) =
      some (⟨0xAB, 0x0F, 0x00, 0xFD, 0x0203, { i := true }, 0x9D⟩, [⟨0x0200, 0x9D, true⟩, ⟨0x0201, 0xF0, true⟩,
        ⟨0x0202, 0x12, true⟩, ⟨0x12FF, 0x00, true⟩, ⟨0x12FF, 0xAB, false⟩]) := by decide

theorem test_V117_sta_indy :
    seen (step (cpuAt 0xAD 0x00 0xFF 0xFD 0x0200 { i := true } [(0x0040, 0x02), (0x0041, 0x30), (0x0200, 0x91),
      (0x0201, 0x40)])) =
      some (⟨0xAD, 0x00, 0xFF, 0xFD, 0x0202, { i := true }, 0x91⟩, [⟨0x0200, 0x91, true⟩, ⟨0x0201, 0x40, true⟩,
        ⟨0x0040, 0x02, true⟩, ⟨0x0041, 0x30, true⟩, ⟨0x3001, 0x00, true⟩, ⟨0x3101, 0xAD, false⟩]) := by decide

theorem test_V119_stx_zpy :
    seen (step (cpuAt 0x00 0x66 0x11 0xFD 0x0200 { i := true } [(0x0200, 0x96), (0x0201, 0xF0)])) =
      some (⟨0x00, 0x66, 0x11, 0xFD, 0x0202, { i := true }, 0x96⟩, [⟨0x0200, 0x96, true⟩, ⟨0x0201, 0xF0, true⟩,
        ⟨0x00F0, 0x00, true⟩, ⟨0x0001, 0x66, false⟩]) := by decide

theorem test_V121_stx_abs :
    seen (step (cpuAt 0x00 0x88 0x00 0xFD 0x0200 { i := true } [(0x0200, 0x8E), (0x0201, 0x34), (0x0202, 0x12)])) =
      some (⟨0x00, 0x88, 0x00, 0xFD, 0x0203, { i := true }, 0x8E⟩, [⟨0x0200, 0x8E, true⟩, ⟨0x0201, 0x34, true⟩,
        ⟨0x0202, 0x12, true⟩, ⟨0x1234, 0x88, false⟩]) := by decide

theorem test_V126_tsx :
    seen (step (cpuAt 0x00 0x00 0x00 0xFD 0x0200 { i := true } [(0x0200, 0xBA)])) =
      some (⟨0x00, 0xFD, 0x00, 0xFD, 0x0201, { n := true, i := true }, 0xBA⟩, [⟨0x0200, 0xBA, true⟩, ⟨0x0201, 0x00,
        true⟩]) := by decide

theorem test_V127_txs :
    seen (step (cpuAt 0x00 0x00 0x00 0xFD 0x0200 { n := true, i := true, c := true } [(0x0200, 0x9A)])) =
      some (⟨0x00, 0x00, 0x00, 0x00, 0x0201, { n := true, i := true, c := true }, 0x9A⟩, [⟨0x0200, 0x9A, true⟩,
        ⟨0x0201, 0x00, true⟩]) := by decide

theorem test_V128_pha_wraps :
    seen (step (cpuAt 0x3C 0x00 0x00 0x00 0x0200 { i := true } [(0x0200, 0x48)])) =
      some (⟨0x3C, 0x00, 0x00, 0xFF, 0x0201, { i := true }, 0x48⟩, [⟨0x0200, 0x48, true⟩, ⟨0x0201, 0x00, true⟩,
        ⟨0x0100, 0x3C, false⟩]) := by decide

theorem test_V129_php :
    seen (step (cpuAt 0x00 0x00 0x00 0xFF 0x0200 { n := true, v := true, c := true } [(0x0200, 0x08)])) =
      some (⟨0x00, 0x00, 0x00, 0xFE, 0x0201, { n := true, v := true, c := true }, 0x08⟩, [⟨0x0200, 0x08, true⟩,
        ⟨0x0201, 0x00, true⟩, ⟨0x01FF, 0xF1, false⟩]) := by decide

theorem test_V130_pla_wraps :
    seen (step (cpuAt 0x00 0x00 0x00 0xFF 0x0200 { i := true } [(0x0100, 0x80), (0x01FF, 0x33), (0x0200, 0x68)])) =
      some (⟨0x80, 0x00, 0x00, 0x00, 0x0201, { n := true, i := true }, 0x68⟩, [⟨0x0200, 0x68, true⟩, ⟨0x0201, 0x00,
        true⟩, ⟨0x01FF, 0x33, true⟩, ⟨0x0100, 0x80, true⟩]) := by decide

theorem test_V132_plp_keeps_no_bits :
    seen (step (cpuAt 0x00 0x00 0x00 0xF0 0x0200 { n := true, v := true, d := true, i := true, z := true, c := true }
      [(0x01F1, 0x30), (0x0200, 0x28)])) =
      some (⟨0x00, 0x00, 0x00, 0xF1, 0x0201, {}, 0x28⟩, [⟨0x0200, 0x28, true⟩, ⟨0x0201, 0x00, true⟩, ⟨0x01F0, 0x00,
        true⟩, ⟨0x01F1, 0x30, true⟩]) := by decide

theorem test_V303_jmp_ind_page_bug :
    seen (step (cpuAt 0x00 0x00 0x00 0xFD 0x0200 { i := true } [(0x0200, 0x6C), (0x0201, 0xFF), (0x0202, 0x10),
      (0x1000, 0x56), (0x10FF, 0x78), (0x1100, 0x99)])) =
      some (⟨0x00, 0x00, 0x00, 0xFD, 0x5678, { i := true }, 0x6C⟩, [⟨0x0200, 0x6C, true⟩, ⟨0x0201, 0xFF, true⟩,
        ⟨0x0202, 0x10, true⟩, ⟨0x10FF, 0x78, true⟩, ⟨0x1000, 0x56, true⟩]) := by decide

theorem test_V304_jsr :
    seen (step (cpuAt 0x00 0x00 0x00 0xFF 0x0200 { i := true } [(0x0200, 0x20), (0x0201, 0x34), (0x0202, 0x12)])) =
      some (⟨0x00, 0x00, 0x00, 0xFD, 0x1234, { i := true }, 0x20⟩, [⟨0x0200, 0x20, true⟩, ⟨0x0201, 0x34, true⟩,
        ⟨0x01FF, 0x00, true⟩, ⟨0x01FF, 0x02, false⟩, ⟨0x01FE, 0x02, false⟩, ⟨0x0202, 0x12, true⟩]) := by decide

theorem test_V306_rts :
    seen (step (cpuAt 0x00 0x00 0x00 0xFF 0x1234 { i := true } [(0x0100, 0xFF), (0x0101, 0x2F), (0x1234, 0x60)])) =
      some (⟨0x00, 0x00, 0x00, 0x01, 0x3000, { i := true }, 0x60⟩, [⟨0x1234, 0x60, true⟩, ⟨0x1235, 0x00, true⟩,
        ⟨0x01FF, 0x00, true⟩, ⟨0x0100, 0xFF, true⟩, ⟨0x0101, 0x2F, true⟩, ⟨0x2FFF, 0x00, true⟩]) := by decide

theorem test_V307_bne_not_taken :
    seen (step (cpuAt 0x00 0x00 0x00 0xFD 0x0200 { i := true, z := true } [(0x0200, 0xD0), (0x0201, 0x04)])) =
      some (⟨0x00, 0x00, 0x00, 0xFD, 0x0202, { i := true, z := true }, 0xD0⟩, [⟨0x0200, 0xD0, true⟩, ⟨0x0201, 0x04,
        true⟩]) := by decide

theorem test_V310_bcc_crosses :
    seen (step (cpuAt 0x00 0x00 0x00 0xFD 0x02F0 { i := true } [(0x02F0, 0x90), (0x02F1, 0x20)])) =
      some (⟨0x00, 0x00, 0x00, 0xFD, 0x0312, { i := true }, 0x90⟩, [⟨0x02F0, 0x90, true⟩, ⟨0x02F1, 0x20, true⟩,
        ⟨0x02F2, 0x00, true⟩, ⟨0x0212, 0x00, true⟩]) := by decide

theorem test_V313_bmi_back :
    seen (step (cpuAt 0x00 0x00 0x00 0xFD 0x0200 { n := true, i := true } [(0x0200, 0x30), (0x0201, 0x80)])) =
      some (⟨0x00, 0x00, 0x00, 0xFD, 0x0182, { n := true, i := true }, 0x30⟩, [⟨0x0200, 0x30, true⟩, ⟨0x0201, 0x80,
        true⟩, ⟨0x0202, 0x00, true⟩, ⟨0x0282, 0x00, true⟩]) := by decide

theorem test_V318_nop :
    seen (step (cpuAt 0x00 0x00 0x00 0xFD 0x0200 { i := true } [(0x0200, 0xEA), (0x0201, 0x55)])) =
      some (⟨0x00, 0x00, 0x00, 0xFD, 0x0201, { i := true }, 0xEA⟩, [⟨0x0200, 0xEA, true⟩, ⟨0x0201, 0x55, true⟩]) :=
        by decide

theorem test_V319_brk :
    seen (step (cpuAt 0x00 0x00 0x00 0xFF 0x0200 { n := true, d := true, c := true } [(0x0201, 0xEE), (0xFFFF,
      0x90)])) =
      some (⟨0x00, 0x00, 0x00, 0xFC, 0x9000, { n := true, d := true, i := true, c := true }, 0x00⟩, [⟨0x0200, 0x00,
        true⟩, ⟨0x0201, 0xEE, true⟩, ⟨0x01FF, 0x02, false⟩, ⟨0x01FE, 0x02, false⟩, ⟨0x01FD, 0xB9, false⟩, ⟨0xFFFE,
        0x00, true⟩, ⟨0xFFFF, 0x90, true⟩]) := by decide

theorem test_V321_rti :
    seen (step (cpuAt 0x00 0x00 0x00 0xFC 0x9000 { i := true } [(0x01FE, 0xFF), (0x01FF, 0x2F), (0x9000, 0x40)])) =
      some (⟨0x00, 0x00, 0x00, 0xFF, 0x2FFF, {}, 0x40⟩, [⟨0x9000, 0x40, true⟩, ⟨0x9001, 0x00, true⟩, ⟨0x01FC, 0x00,
        true⟩, ⟨0x01FD, 0x00, true⟩, ⟨0x01FE, 0xFF, true⟩, ⟨0x01FF, 0x2F, true⟩]) := by decide

theorem test_V201n4_adc_overflow :
    seen (step (cpuAt 0x7F 0x00 0x00 0xFD 0x0200 { i := true } [(0x0200, 0x69), (0x0201, 0x01)])) =
      some (⟨0x80, 0x00, 0x00, 0xFD, 0x0202, { n := true, v := true, i := true }, 0x69⟩, [⟨0x0200, 0x69, true⟩,
        ⟨0x0201, 0x01, true⟩]) := by decide

theorem test_V202n8_sbc_overflow :
    seen (step (cpuAt 0xD0 0x00 0x00 0xFD 0x0200 { i := true, c := true } [(0x0200, 0xE9), (0x0201, 0x70)])) =
      some (⟨0x60, 0x00, 0x00, 0xFD, 0x0202, { v := true, i := true, c := true }, 0xE9⟩, [⟨0x0200, 0xE9, true⟩,
        ⟨0x0201, 0x70, true⟩]) := by decide

theorem test_V203n3_adc_decimal :
    seen (step (cpuAt 0x58 0x00 0x00 0xFD 0x0200 { d := true, i := true } [(0x0200, 0x69), (0x0201, 0x46)])) =
      some (⟨0x04, 0x00, 0x00, 0xFD, 0x0202, { n := true, v := true, d := true, i := true, c := true }, 0x69⟩,
        [⟨0x0200, 0x69, true⟩, ⟨0x0201, 0x46, true⟩]) := by decide

theorem test_V204n6_sbc_decimal :
    seen (step (cpuAt 0x12 0x00 0x00 0xFD 0x0200 { d := true, i := true, c := true } [(0x0200, 0xE9), (0x0201,
      0x21)])) =
      some (⟨0x91, 0x00, 0x00, 0xFD, 0x0202, { n := true, d := true, i := true }, 0xE9⟩, [⟨0x0200, 0xE9, true⟩,
        ⟨0x0201, 0x21, true⟩]) := by decide

/-! ### One access of a device: vectors X, S and T of 95_test_vectors.md -/

/-- The reset state with this User VIA. -/
def withVia (v : Via) : State := { State.reset with usrVia := v }

/-- The reset state with this FDC. -/
def withFdc (f : Fdc) : State := { State.reset with fdc := f }

/-- The reset state with this Tube. -/
def withTube (t : Tube) : State := { State.reset with tube := t }

/-- The byte an access left on the bus, with the User VIA after it. -/
def viaSeen (o : Host.Outcome State Fault Refusal) : Option (Byte × Via) := (after o).map fun t => (t.cpu.dbus,
  t.usrVia)

/-- The byte an access left on the bus, with the FDC after it. -/
def fdcSeen (o : Host.Outcome State Fault Refusal) : Option (Byte × Fdc) := (after o).map fun t => (t.cpu.dbus, t.fdc)

/-- The byte a host access left on the bus, the byte a parasite read returned, and the Tube after it. -/
def tubeSeen (o : Host.Outcome State Fault Refusal) : Option (Byte × Byte × Tube) :=
  (after o).map fun t => (t.cpu.dbus, t.tube.pdata, t.tube)

/-- X1, third line: IFR $7F with nothing enabled reads $7F. -/
theorem test_X1_ifr_none_enabled :
    (viaSeen (exec (.viaReadIfr .user) (withVia { id := .user, ifr := 0x7F }))).map Prod.fst = some 0x7F := by decide

/-- X1, fifth line: flags $22 with enables $02 read $A2. -/
theorem test_X1_ifr_enabled :
    (viaSeen (exec (.viaReadIfr .user) (withVia { id := .user, ifr := 0x22, ier := 0x02 }))).map Prod.fst = some 0xA2
      := by
  decide

/-- X3, mode 5: reading $1 clears CA1's and CA2's flags, drives CA2 low and arms the pulse. -/
theorem test_X3_read_ora_pulse :
    (viaSeen (exec (.viaReadOra .user) (withVia { id := .user, ifr := 0x1B, pcr := 0x0A }))).map
      (fun r => (r.2.ifr, r.2.a.c2, r.2.a.pulse)) = some (0x18, false, 2) := by decide

/-- X3, mode 1: writing $0 keeps CB2's flag. -/
theorem test_X3_write_orb_independent :
    (viaSeen (exec (.viaWriteOrb .user 0) (withVia { id := .user, ifr := 0x1B, pcr := 0x22 }))).map
      (fun r => (r.2.ifr, r.2.b.c2)) = some (0x0B, true) := by decide

/-- X12: writing $A2 to IER over $40 sets two enables. -/
theorem test_X12_write_ier :
    (viaSeen (exec (.viaWriteIer .user 0xA2) (withVia { id := .user, ier := 0x40 }))).map (fun r => r.2.ier) =
      some 0x62 := by decide

/-- X12: writing $03 to IFR over $3F clears two flags. -/
theorem test_X12_write_ifr :
    (viaSeen (exec (.viaWriteIfr .user 0x03) (withVia { id := .user, ifr := 0x3F }))).map (fun r => r.2.ifr) =
      some 0x3C := by decide

/-- X13: with ACR bit 7 set PB7 follows T1's output, here high, over ORB $3C, DDRB $F0 and pins $A5. -/
theorem test_X13_write_acr_pb7 :
    (viaSeen (exec (.viaWriteAcr .user 0x80)
      (withVia { id := .user, b := { or := 0x3C, ddr := 0xF0, ext := 0xA5, p := 0x35 } }))).map
      (fun r => r.2.b.p) = some 0xB5 := by decide

/-- R404: CA2, driven low in mode 6, becomes an input that the environment holds high, and the trailing edge of the same
cycle sees a rising edge in mode 2. -/
theorem test_R404_c2_becomes_input :
    (viaSeen (exec (.viaWritePcr .user 0x04) (withVia { id := .user, pcr := 0x0C, a := { c2 := false, oldC2 := false
      } }))).map
      (fun r => (r.2.a.c2, r.2.trailingEdge.ifr)) = some (true, 0x01) := by decide

/-- X14: ORA $55 on the output pins of DDRA $0F over pins $A0. -/
theorem test_X14_write_ora :
    (viaSeen (exec (.viaWriteOra .user 0x55) (withVia { id := .user, a := { ddr := 0x0F, ext := 0xA0 } }))).map
      (fun r => (r.2.a.or, r.2.a.p)) = some (0x55, 0xA5) := by decide

/-- X5: the read of $4 just after the timeout leaves the flag. -/
theorem test_X5_read_t1cl_at_timeout :
    (viaSeen (exec (.viaReadT1cl .user) (withVia { id := .user, t1 := 0xFFFF, ifr := 0x40, t1Timeout := true }))).map
      (fun r => (r.1, r.2.ifr)) = some (0xFF, 0x40) := by decide

/-- S1: the status after reset, with the head at track 0. -/
theorem test_S1_status : (fdcSeen (exec .fdcReadStatus State.reset)).map Prod.fst = some 0x04 := by decide

/-- S2: Restore with spin-up: SpinUp is called and the status reads $87. -/
theorem test_S2_restore :
    ((fdcSeen (exec (.fdcWriteCommand 0x00) State.reset)).map fun r =>
      (r.2.drive.calls, (r.2.readStatus Config.default).1)) = some ([.spinUp], 0x87) := by decide

/-- S13, second part: Force Interrupt $D8 while idle raises INTRQ at once. -/
theorem test_S13_force_interrupt :
    (fdcSeen (exec (.fdcWriteCommand 0xD8) State.reset)).map (fun r => (r.2.intrq, r.2.status, r.2.motor)) =
      some (true, 0, false) := by decide

/-- R521, R522: the two commands with no meaning while idle. -/
theorem test_refused_commands :
    reason (exec (.fdcWriteCommand 0xE8) State.reset) = some (.fdcReadTrack 0xE8) ∧
    reason (exec (.fdcWriteCommand 0xF0) State.reset) = some (.fdcWriteTrack 0xF0) := by decide

/-- S6: Step-In with the update flag on a turning disc, one step of 6 ms later. -/
theorem test_S6_step_in_direction :
    (fdcSeen (exec (.fdcWriteCommand 0x58) (withFdc { motor := true, dir := false, track := 9 }))).map
      (fun r => (r.2.state, r.2.dir, r.2.status)) = some (.stepOnce, true, 0x21) := by decide

/-- T1: status of channel 3 and its sentinel, both sides. -/
theorem test_T1_channel3_empty :
    (tubeSeen (exec .tubeHostRead4 State.reset)).map Prod.fst = some 0x7F ∧
    (tubeSeen (exec .tubeHostRead5 State.reset)).map Prod.fst = some 0xE4 ∧
    (tubeSeen (exec .tubeParasiteRead5 State.reset)).map (fun r => r.2.1) = some 0x96 := by decide

/-- T2: $89 sets Q and M, $01 then clears Q. -/
theorem test_T2_control :
    (tubeSeen (exec (.tubeHostWrite0 0x89) State.reset)).map (fun r => r.2.2.tstat) = some 0x09 ∧
    (tubeSeen (exec (.tubeHostWrite0 0x01) (withTube { Tube.initial 24 with tstat := 0x09 }))).map
      (fun r => r.2.2.tstat) = some 0x08 := by decide

/-- T3: with I set a host byte raises the parasite's IRQ. -/
theorem test_T3_host_byte :
    (tubeSeen (exec (.tubeHostWrite1 0x41) (withTube { Tube.initial 24 with tstat := 0x02 }))).map
      (fun r => (r.2.2.pirq, r.2.2.h2p1, r.2.2.p1.available, r.2.2.h1.notFull)) = some (true, 0x41, true, false) := by
  decide

/-- T4: a byte for a full ring buffer is dropped. -/
theorem test_T4_ring_full :
    (tubeSeen (exec (.tubeParasiteWrite1 0x99)
      (withTube { Tube.initial 24 with p2h1Count := 24, h1 := ⟨true, true⟩, p1 := ⟨false, false⟩ }))).map
      (fun r => (r.2.2.p2h1Count, r.2.2.p2h1Wr, r.2.2.p2h1)) = some (24, 0, List.replicate 24 0) := by decide

/-- T6: in two-byte mode the second byte raises the flags. -/
theorem test_T6_second_byte :
    (tubeSeen (exec (.tubeHostWrite5 0xBB)
      (withTube { Tube.initial 24 with tstat := 0x18, h2p3 := ⟨0xAA, 0, 1⟩ }))).map
      (fun r => (r.2.2.h2p3, r.2.2.p3.available, r.2.2.h3.notFull, r.2.2.pnmi)) =
      some (⟨0xAA, 0xBB, 2⟩, true, false, true) := by decide

/-- T12: the parasite's write of register 0 does nothing. -/
theorem test_T12_parasite_control : (tubeSeen (exec (.tubeParasiteWrite0 0xBF) State.reset)).map (fun r => r.2.2) =
    some (Tube.initial 24) := by decide

/-! ### Witnesses: for each statement with hypotheses, a state and operands that meet them -/

/-- The state an outcome leads to. -/
def leadsTo (o : Host.Outcome State Fault Refusal) : State := (after o).getD State.reset

/-- In the default layout an address outside the devices' windows is memory. -/
theorem plain_reset (a : Word) (h : target Config.default a = .ram) : Plain Config.default a := Or.inl h

/-- A list of such addresses. -/
theorem plain_all (l : List Word) (h : l.all (fun a => target Config.default a == .ram) = true) :
    ∀ a ∈ l, Plain Config.default a :=
  fun a ha => Or.inl (by simpa using List.all_eq_true.mp h a ha)

/-- S = $00, where the stack pointer wraps, and PC below a page boundary. -/
def low : State := cpuAt 0x80 0xFF 0x01 0x00 0x12FE { d := true } [(0x00FF, 0xF8), (0x12FE, 0xA9), (0x12FF, 0x42)]

theorem low_wf : Memory.wf low.mem = true := by decide

/-- O1, at an indexed address that crosses its page, and an immediate form. -/
theorem witness_read_class :
    readForm (.ldaAbsx 0x12F0) = some (.lda, .absx 0x12F0) ∧ Plain low.cfg (effAddr false (.absx 0x12F0) low).1 ∧
    immForm (.cpxImm 0xFF) = some (.cpx, 0xFF) := ⟨rfl, plain_reset _ (by decide), rfl⟩

/-- O2, an accepted store of $DF, the last accepted byte, to the FDC's command register; of $E0 while the controller is
busy; and of $E0 and $FF while it is not. -/
theorem witness_write_class :
    storeForm (.staAbs 0xFE84) = some (.sta, .abs 0xFE84) ∧ Memory.wf low.mem = true ∧
    Accepts low.cfg (effAddr true (.abs 0xFE84) low).1 0xDF = true ∧
    (effAddr true (.abs 0xFE84) (withFdc { status := 1 })).2.beginCycle.fdc.busy = true ∧
    Accepts low.cfg (effAddr true (.abs 0xFE84) low).1 0xE0 = false ∧
    Accepts low.cfg (effAddr true (.abs 0xFE84) low).1 0xFF = false ∧
    (effAddr true (.abs 0xFE84) low).2.beginCycle.fdc.busy = false ∧
    Plain low.cfg (effAddr true (.indy 0xFF) low).1 := by
  refine ⟨rfl, low_wf, ?_, ?_, ?_, ?_, ?_, plain_reset _ ?_⟩ <;> decide

/-- O3, in page 0 with wrap-around. -/
theorem witness_rmw_class :
    rmwForm (.incZpx 0x01) = some (.inc, .zpx 0x01) ∧ Memory.wf low.mem = true ∧
    Accepts low.cfg (effAddr true (.zpx 0x01) low).1 (readCycle (effAddr true (.zpx 0x01) low).1
      (effAddr true (.zpx 0x01) low).2).1 = true ∧
    (∀ v, Accepts low.cfg (effAddr true (.zpx 0x01) low).1 v = true) ∧
    Plain low.cfg (effAddr true (.zpx 0x01) low).1 := by
  refine ⟨rfl, low_wf, ?_, ?_, plain_reset _ ?_⟩ <;> decide

/-- O4, an implied and an accumulator form. -/
theorem witness_implied_and_accumulator :
    impliedForm .txs = some (fun r => { r with s := r.x }) ∧ accForm .rorAcc = some .ror := ⟨rfl, rfl⟩

/-- O5, with S = $00. -/
theorem witness_pushes :
    Memory.wf low.mem = true ∧ Accepts low.cfg (stackAt low.cfg low.cpu.s) low.cpu.a = true ∧
    Accepts low.cfg (stackAt low.cfg low.cpu.s) (low.cpu.p.toByte true) = true ∧ Plain low.cfg low.cpu.pc ∧
    Plain low.cfg (stackAt low.cfg low.cpu.s) := by
  refine ⟨low_wf, ?_, ?_, plain_reset _ ?_, plain_reset _ ?_⟩ <;> decide

/-- O6, O9 and O23, with the stack pointer about to wrap. -/
theorem witness_pulls :
    ∀ k : Fin 4, Plain State.reset.cfg (stackAt State.reset.cfg (State.reset.cpu.s + BitVec.ofNat 8 k.val)) :=
  fun k => plain_reset _ (by revert k; decide)

/-- O7, at the end of a page. -/
theorem witness_jumps :
    Plain low.cfg 0x12FF ∧ Plain low.cfg (mkWord (hiByte 0x12FF) (loByte 0x12FF + 1)) := by
  refine ⟨plain_reset _ ?_, plain_reset _ ?_⟩ <;> decide

/-- O8, O18, O19 and O22's pushes, with S = $00. -/
theorem witness_jsr :
    Memory.wf low.mem = true ∧ Accepts low.cfg (stackAt low.cfg low.cpu.s) (hiByte low.cpu.pc) = true ∧
    Accepts low.cfg (stackAt low.cfg (low.cpu.s - 1)) (loByte low.cpu.pc) = true ∧ Plain low.cfg low.cpu.pc ∧
    Plain low.cfg (stackAt low.cfg low.cpu.s) ∧ Plain low.cfg (stackAt low.cfg (low.cpu.s - 1)) := by
  refine ⟨low_wf, ?_, ?_, plain_reset _ ?_, plain_reset _ ?_, plain_reset _ ?_⟩ <;> decide

/-- O8, with the JSR's last byte in RAM away from the stack. -/
theorem witness_jsr_target :
    Plain low.cfg low.cpu.pc ∧ low.peek low.cpu.pc = hiByte (mkWord (low.peek low.cpu.pc) 0x34) ∧
    target low.cfg low.cpu.pc = .ram ∧ low.cpu.pc ≠ stackAt low.cfg low.cpu.s ∧
    low.cpu.pc ≠ stackAt low.cfg (low.cpu.s - 1) := by
  refine ⟨plain_reset _ ?_, ?_, ?_, ?_, ?_⟩ <;> decide

/-- O9, the word pulled from memory that nothing has written is $0000. -/
theorem witness_rts : Plain State.reset.cfg (mkWord 0x00 0x00) := plain_reset _ (by decide)

/-- The state after a JSR from `low`, with A changed since. -/
def afterJsr : State := { leadsTo (exec (.jsrAbs 0x1234) low) with cpu := { (leadsTo (exec (.jsrAbs 0x1234) low)).cpu
  with a := 7 } }

/-- O10. -/
theorem witness_jsr_then_rts :
    Memory.wf low.mem = true ∧ target low.cfg (stackAt low.cfg low.cpu.s) = .ram ∧
    target low.cfg (stackAt low.cfg (low.cpu.s - 1)) = .ram ∧
    exec (.jsrAbs 0x1234) low = .next (leadsTo (exec (.jsrAbs 0x1234) low)) ∧ afterJsr.cfg = low.cfg ∧
    afterJsr.cpu.s = (leadsTo (exec (.jsrAbs 0x1234) low)).cpu.s ∧
    afterJsr.peek (stackAt low.cfg low.cpu.s) = (leadsTo (exec (.jsrAbs 0x1234) low)).peek (stackAt low.cfg
      low.cpu.s) ∧
    afterJsr.peek (stackAt low.cfg (low.cpu.s - 1)) =
      (leadsTo (exec (.jsrAbs 0x1234) low)).peek (stackAt low.cfg (low.cpu.s - 1)) :=
  ⟨low_wf, by decide, by decide, rfl, rfl, rfl, rfl, rfl⟩

/-- O11, a branch not taken and one taken. -/
theorem witness_branches :
    branchForm (.bne 0x80) = some (fun p => p.z == false, 0x80) ∧
    (fun p : Flags => p.z == false) { z := true } = false ∧ (fun p : Flags => p.z == false) low.cpu.p = true ∧
    Plain low.cfg low.cpu.pc ∧ Plain low.cfg (mkWord (hiByte low.cpu.pc) (loByte 0x127E)) := by
  refine ⟨rfl, rfl, rfl, plain_reset _ ?_, plain_reset _ ?_⟩ <;> decide

/-- O12, for the mode with the most cycles, its pointer at the end of page 0. -/
theorem witness_addressing_modes : ∀ a ∈ low.modeCycles true (.indy 0xFF), Plain low.cfg a :=
  plain_all _ (by decide)

/-- O14, both modes, at the largest decimal byte. -/
theorem witness_adc_sbc_modes :
    ({} : Flags).d = false ∧ low.cpu.p.d = true ∧ isBcd 0x99 ∧ isBcd 0x00 := by
  unfold isBcd; decide

/-- `low` with both lines waiting and the interrupt mask clear. -/
def pending (reset nmi irq : Bool) : State :=
  { low with cpu := { low.cpu with resetReq := reset, nmiPending := nmi, irqLine := irq } }

/-- O18 and O19. -/
theorem witness_irq_and_nmi_entry :
    (pending false false true).cpu.resetReq = false ∧ (pending false false true).cpu.nmiPending = false ∧
    (pending false false true).cpu.irqLine = true ∧ (pending false false true).cpu.p.i = false ∧
    (pending false true true).cpu.resetReq = false ∧ (pending false true true).cpu.nmiPending = true ∧
    Memory.wf low.mem = true ∧ Accepts low.cfg (stackAt low.cfg (low.cpu.s - 2)) (low.cpu.p.toByte false) = true ∧
    Plain low.cfg (stackAt low.cfg (low.cpu.s - 2)) ∧ Plain low.cfg low.cfg.vecIrq ∧ Plain low.cfg (low.cfg.vecIrq +
      1) ∧
    Plain low.cfg low.cfg.vecNmi ∧ Plain low.cfg (low.cfg.vecNmi + 1) := by
  refine ⟨rfl, rfl, rfl, rfl, rfl, rfl, low_wf, ?_, plain_reset _ ?_, plain_reset _ ?_, plain_reset _ ?_, plain_reset
    _ ?_,
    plain_reset _ ?_⟩ <;> decide

/-- O20, with an NMI and an IRQ waiting too. -/
theorem witness_reset_entry :
    (pending true true true).cpu.resetReq = true ∧ Plain low.cfg low.cfg.vecReset ∧
    Plain low.cfg (low.cfg.vecReset + 1) := by
  refine ⟨rfl, plain_reset _ ?_, plain_reset _ ?_⟩ <;> decide

/-- O22. -/
theorem witness_brk :
    Memory.wf low.mem = true ∧ Accepts low.cfg (stackAt low.cfg low.cpu.s) (hiByte (low.cpu.pc + 1)) = true ∧
    Accepts low.cfg (stackAt low.cfg (low.cpu.s - 1)) (loByte (low.cpu.pc + 1)) = true ∧
    Accepts low.cfg (stackAt low.cfg (low.cpu.s - 2)) (low.cpu.p.toByte true) = true ∧
    ∀ k : Fin 3, Plain low.cfg (stackAt low.cfg (low.cpu.s - BitVec.ofNat 8 k.val)) := by
  refine ⟨low_wf, by decide, by decide, by decide, fun k => plain_reset _ (by revert k; decide)⟩

/-- O24, with A changed since the entry. -/
theorem witness_rti_restores :
    let t := leadsTo (enterInterrupt false 0xFFFE low)
    let u : State := { t with cpu := { t.cpu with a := 7 } }
    Memory.wf low.mem = true ∧
    (∀ k : Fin 3, target low.cfg (stackAt low.cfg (low.cpu.s - BitVec.ofNat 8 k.val)) = .ram) ∧
    enterInterrupt false 0xFFFE low = .next t ∧ u.cfg = low.cfg ∧ u.cpu.s = low.cpu.s - 3 ∧
    ∀ k : Fin 3, u.peek (stackAt low.cfg (low.cpu.s - BitVec.ofNat 8 k.val)) =
      frame low.cfg low.cpu.s low.cpu.pc (low.cpu.p.toByte false) low.peek
        (stackAt low.cfg (low.cpu.s - BitVec.ofNat 8 k.val)) :=
  ⟨low_wf, by decide, rfl, rfl, by decide, by decide⟩

/-- O25, with the instruction's last byte at the end of a page. -/
theorem witness_step_runs_decoded :
    nextSequence low = .instr ∧ (Instr.ldaImm 0x42).WellFormed ∧
    decodeBytes [low.peek low.cpu.pc, low.peek (low.cpu.pc + 1), low.peek (low.cpu.pc + 2)] =
      .ok (.ldaImm 0x42, [0x00]) ∧
    ∀ k, k < 3 - [(0x00 : Byte)].length → Plain low.cfg (low.cpu.pc + BitVec.ofNat 16 k) := by
  refine ⟨rfl, by decide, rfl, ?_⟩
  intro k hk
  match k, hk with
  | 0, _ => exact plain_reset _ (by decide)
  | 1, _ => exact plain_reset _ (by decide)

/-- O25 for a JSR, whose third byte is not among the bytes fetched first. -/
theorem witness_step_runs_jsr :
    decodeBytes [(State.reset.withFetchWord 24 0x123420).peek 0, (State.reset.withFetchWord 24 0x123420).peek 1,
      (State.reset.withFetchWord 24 0x123420).peek 2] = .ok (.jsrAbs 0x1234, []) ∧
    nextSequence (State.reset.withFetchWord 24 0x123420) = .instr ∧
    (State.reset.withFetchWord 24 0x123420).peek (State.reset.withFetchWord 24 0x123420).cpu.pc = 0x20 := by
  refine ⟨rfl, ?_, ?_⟩ <;> decide

/-- O27 and O28, the two ends of a command's range and a three-byte instruction with a byte left over. -/
theorem witness_round_trip :
    (Instr.fdcCmdSeek 0x10).WellFormed ∧ (Instr.fdcCmdSeek 0x1F).WellFormed ∧
    decodeBytes [0x6C, 0xFF, 0x12, 0xEA] = .ok (.jmpInd 0x12FF, [0xEA]) := ⟨by decide, by decide, rfl⟩

/-- O29, the first and the last reserved opcode. -/
theorem witness_reserved :
    reservedForm .reserved02 = some 0x02 ∧ reservedForm .reservedFF = some 0xFF := ⟨rfl, rfl⟩

/-- O30, each of the three reasons. -/
theorem witness_stops :
    reason (step (State.reset.withFetchWord 8 0x02)) = some (.reservedOpcode 0x02) ∧
    reason (step { State.reset.withFetchWord 24 0xFE848D with cpu := { State.reset.cpu with a := 0xE0 } }) =
      some (.fdcReadTrack 0xE0) ∧
    reason (step { State.reset.withFetchWord 24 0xFE848D with cpu := { State.reset.cpu with a := 0xFF } }) =
      some (.fdcWriteTrack 0xFF) := by decide

/-- O31, at reset with a NOP to run. -/
theorem witness_step_keeps_inv :
    Inv (State.reset.withFetchWord 8 0xEA) ∧
    step (State.reset.withFetchWord 8 0xEA) = .next (leadsTo (step (State.reset.withFetchWord 8 0xEA))) := by
  refine ⟨?_, rfl⟩
  constructor
  · constructor <;> decide
  · decide
  · exact ⟨rfl, rfl, rfl⟩
  · constructor <;> decide
  · constructor <;> decide
  · rfl
  · rfl
  · constructor <;> decide
  · constructor <;> decide
  · rfl
  · rfl

/-- R115: a byte that the parasite writes before the host's access is what the host fetches, in the first cycle of a run
too. -/
theorem test_parasite_before_first_fetch :
    (after (step { cpuAt 0 0 0 0xFF 0xFEE7 {} [] with script := [{ parasiteBefore := [.write 7 0xEA] }] })).map
      (fun t => (t.cpu.ir, t.cpu.pc)) = some (0xEA, 0xFEE8) := by decide

/-- R115: one that it writes after the host's access is there for the next cycle only. -/
theorem test_parasite_after_access :
    (readCycle 0xFEE7 { State.reset with script := [{ parasiteAfter := [.write 7 0xEA] }] }).1 = 0x00 ∧
    (readCycle 0xFEE7 (readCycle 0xFEE7 { State.reset with script := [{ parasiteAfter := [.write 7 0xEA] }] }).2).1 =
      0xEA := by decide

/-- O33: the order of R114 at reset, the clauses on the parasite's lists with an input and with none, a Tube that its
parasite may reach and one that it may not, and a cycle in which the platform raises nmi_line. -/
theorem witness_cycle_order :
    State.reset.script = [] ∧
    ({ State.reset with script := [{ parasiteBefore := [.write 7 0x42] }] } : State).script.head? =
      some { parasiteBefore := [.write 7 0x42], parasiteAfter := [] } ∧
    target State.reset.cfg 0xFEE7 = .tube ∧ target State.reset.cfg 0xFEE8 ≠ .tube ∧
    State.reset.tube.tstat.getLsbD 5 = false ∧ ({ Tube.initial 24 with tstat := 0x20 } : Tube).tstat.getLsbD 5 = true
      ∧
    State.reset.cfg.agentOrder = {} ∧ State.reset.cpu.nmiLine = false ∧
    (readCycle 0x0000 { State.reset with script := [{ levels := { otherNmi := true } }] }).2.cpu.nmiLine = true ∧
    (readCycle 0x0000 { State.reset with script := [{ levels := { otherNmi := true } }] }).2.cpu.nmiPending = true ∧
    (after (writeCycle 0x0000 0x12 { State.reset with script := [{ levels := { otherNmi := true } }] })).map
      (fun u => (u.cpu.nmiPending, u.peek 0)) = some (true, 0x12) := by decide

/-- O33 and O34, at the first and the last address of each device's window. -/
theorem witness_bus :
    target State.reset.cfg 0xFE40 = .sysVia ∧ target State.reset.cfg 0xFE4F = .sysVia ∧
    target State.reset.cfg 0xFE60 = .usrVia ∧ target State.reset.cfg 0xFE6F = .usrVia ∧
    target State.reset.cfg 0xFE84 = .fdc ∧ target State.reset.cfg 0xFE87 = .fdc ∧
    target State.reset.cfg 0xFEE0 = .tube ∧ target State.reset.cfg 0xFEE7 = .tube ∧
    (busWrite 0xFE87 0xFF State.reset).toOption.isSome = true ∧
    (busWrite 0xFE84 0xE0 State.reset).toOption.isSome = false := by decide

/-- O35 and O36, with the handshake of $F and without it. -/
theorem witness_via_ports :
    State.reset.cfg.viaRegFHandshake = true ∧
    ({ State.reset with cfg := { Config.default with viaRegFHandshake := false } } : State).cfg.viaRegFHandshake =
      false :=
  ⟨rfl, rfl⟩

/-- O41, at the last edge of the countdown, for N = $01FF, and with PB7 from T1. -/
theorem witness_t1_timing :
    0x1FF ≤ (mkWord 0x01 ({ id := .user, t1ll := 0xFF } : Via).t1ll).toNat ∧
    bit ({ id := .user, acr := 0x80 } : Via).acr 7 = true := by decide

/-- O42, counting cycles, and counting a falling edge of PB6. -/
theorem witness_t2_timing :
    bit ({ id := .user } : Via).acr 5 = false ∧ bit ({ id := .user, acr := 0x20 } : Via).acr 5 = true ∧
    ({ id := .user, acr := 0x20, b := { ext := 0xBF, p := 0xBF } } : Via).leadingEdge.t2Count = true ∧
    ({ id := .user, acr := 0x20 } : Via).t2Reload = false ∧
    ({ id := .user, t2Timeout := true, t2Pending := true } : Via).t2Timeout = true ∧
    ({ id := .user, t2Timeout := true, t2Pending := true } : Via).t2Pending = true := by decide

/-- O44, on an edge that raises a flag. -/
theorem witness_edges :
    ∃ v w : Via, w = v.trailingEdge ∧ (∃ j : Fin 7, v.ifr.getLsbD j.val = true) ∧ v.ifr ≠ w.ifr :=
  ⟨{ id := .user, ifr := 0x40, a := { c1 := false } }, _, rfl, ⟨6, rfl⟩, by decide⟩

/-- O46, both with the motor off and on, and a Write Sector on a protected disc. -/
theorem witness_fdc_command_starts :
    (Instr.fdcCmdWriteSector 0xA0).WellFormed ∧ commandByte (.fdcCmdWriteSector 0xA0) = some 0xA0 ∧
    firstState (.fdcCmdWriteSector 0xA0) true = some .finish ∧
    (withFdc { drive := { writeProtected := true } }).fdc.drive.writeProtected = true ∧
    (withFdc { drive := { writeProtected := true } }).fdc.busy = false ∧
    (withFdc { drive := { writeProtected := true } }).fdc.motor = false ∧ bit (0xA0 : Byte) 3 = false ∧
    (withFdc { motor := true }).fdc.busy = false := by decide

/-- O47, on both sides of each bound. -/
theorem witness_fdc_command_write :
    (0xDF : Byte).toNat < 0xE0 ∧ State.reset.fdc.busy = false ∧ (withFdc { status := 1 }).fdc.busy = true ∧
    (0xCF : Byte).toNat / 16 ≠ 0xD ∧ (0xE0 : Byte).toNat / 16 ≠ 0xD := by decide

/-- A controller that waits two updates for `next`, the position on the last byte of a 128-byte sector. -/
def waiting (next : FdcState) : Fdc :=
  { state := .wait, waitUs := 2, nextState := next, motor := true, status := 0x01, secSize := 128, offset := 127 }

/-- O49 and O50, for each clause's state, at the sector's end. -/
theorem witness_fdc_waits :
    (waiting .readByte).state = .wait ∧ (waiting .readByte).waitUs = 1 + 1 ∧ (1 : Nat) ≤ 1 ∧
    (waiting .readByte).nextState = .readByte ∧ (waiting .writeByte).nextState = .writeByte ∧
    (waiting .readNextSector).nextState = .readNextSector ∧ (waiting .writeNextSector).nextState = .writeNextSector ∧
    (waiting .writeFirstDrq).nextState = .writeFirstDrq ∧ (waiting .readAddressByte).nextState = .readAddressByte ∧
    (waiting .finish).nextState = .finish ∧ ({ waiting .readAddressByte with offset := 5 } : Fdc).addrBuf[5]? = some
      0 ∧
    Config.default.fdcTickUs = 1 ∧
    (waiting .readByte).offset + 1 = (waiting .readByte).secSize := by decide

/-- A drive with two sectors on its track. -/
def disc : Drive :=
  { spinning := true
    sectors := [{ physTrack := 0, index := 0, idTrack := 0, size := .b128, bytes := List.replicate 128 0x40 },
      { physTrack := 0, index := 1, idTrack := 0, size := .b128, bytes := List.replicate 128 0x41 },
      { physTrack := 0, index := 2, idTrack := 7, size := .b128, bytes := List.replicate 128 0x42 }] }

/-- R484, R491: the density is asked for in GetSectorDetails only. -/
theorem test_R491_density :
    disc.find 1 true = none ∧ disc.getByte 1 0 = some 0x41 ∧ (disc.setByte 1 0 0x99).getByte 1 0 = some 0x99 := by
      decide

/-- O50 at a sector's boundary: the next sector on this track, and with another track in its ID. -/
theorem witness_sector_boundary :
    bit (0x98 : Byte) 4 = true ∧ bit (0x88 : Byte) 4 = false ∧
    (∃ q, disc.find (0 + 1) false = some q ∧ q.idTrack = (waiting .readNextSector).track) ∧
    (∀ q, disc.find (1 + 1) false = some q → q.idTrack ≠ (waiting .writeNextSector).track) := by
  refine ⟨by decide, by decide, ⟨_, rfl, rfl⟩, ?_⟩
  intro q h
  obtain rfl := Option.some.inj h
  decide

/-- A turning drive with the head on track `n`. -/
def turning (first : FdcState) (n : Nat) (fault : Option Bool) : Fdc :=
  { state := first, motor := true, status := 0x21, drive := { head := n, spinning := true, track0Fault := fault } }

/-- O51, at the most steps a Restore makes, and with a dead sensor and V = 1. -/
theorem witness_restore :
    (turning .restoreCheck 255 none).state = .restoreCheck ∧ (turning .restoreCheck 255 none).restoreCount = 0 ∧
    Config.default.fdcTickUs = 1 ∧ Config.default.fdcRestoreLimit = 255 ∧ 0 < Config.default.fdcSettleUs ∧
    (turning .restoreCheck 255 none).drive.track0Fault = none ∧ (turning .restoreCheck 255 none).drive.head = 255 ∧
    (turning .restoreCheck 9 (some false)).drive.track0Fault = some false ∧ bit (0x0C : Byte) 2 = true := by decide

/-- O52: a seek of no step, of 255 steps inward, and one outward; a step at track 0 and one off it. -/
theorem witness_seek_and_step :
    (turning .seekCheck 0 none).drive.track0Fault = none ∧ (turning .seekCheck 0 none).state = .seekCheck ∧
    (turning .seekCheck 0 none).data.toNat = (turning .seekCheck 0 none).track.toNat + 0 ∧
    ({ turning .seekCheck 0 none with data := 255 } : Fdc).data.toNat = (turning .seekCheck 0 none).track.toNat + 255
      ∧
    ({ turning .seekCheck 1 none with track := 5 } : Fdc).track.toNat = (turning .seekCheck 1 none).data.toNat + 5 ∧
    (turning .stepOnce 0 none).state = .stepOnce ∧ ({ turning .stepOnce 0 none with dir := false } : Fdc).dir = false
      ∧
    (turning .stepOnce 0 none).drive.head = 0 ∧ (turning .stepOnce 0 none).dir = true ∧
    0 < (turning .stepOnce 1 none).drive.head ∧ Config.default.fdcTickUs = 1 := by decide

/-- O53: a sector that is found, one with another track in its ID, one that is not there; an address that is found and
an empty disc. -/
theorem witness_sector_search :
    Config.default.fdcTickUs = 1 ∧ 0 < Config.default.fdcSettleUs ∧ 0 < Config.default.fdcRnfPulses *
      Config.default.fdcIndexPeriodUs ∧
    bit (0x88 : Byte) 6 = false ∧ bit (0xC8 : Byte) 6 = true ∧
    (disc.find 1 false).map (fun q => q.idTrack) = some 0 ∧ (disc.find 2 false).map (fun q => q.idTrack) = some 7 ∧
    (disc.find 3 false) = none ∧ (disc.find 0 false).isSome = true ∧ (({} : Drive).find 0 false) = none := by decide

/-- O54: two sectors, the third with another track in its ID. -/
theorem witness_multi_sector_read :
    let f : Fdc := { state := .wait, nextState := .readByte, waitUs := Config.default.fdcByteUs, offset := 0
                     secSize := SectorSize.b128.bytes, command := 0x98, sector := 0, motor := true, drive := disc }
    Config.default.fdcTickUs = 1 ∧ 0 < Config.default.fdcByteUs ∧ f.secSize = SectorSize.b128.bytes ∧ bit f.command 4
      = true ∧
    (∀ k, 0 < k → k < 2 → ∃ q, f.drive.find (f.sector + BitVec.ofNat 8 k) f.density = some q ∧
      q.idTrack = f.track ∧ q.size = .b128) ∧
    (∀ q, f.drive.find (f.sector + BitVec.ofNat 8 2) f.density = some q → q.idTrack ≠ f.track) := by
  refine ⟨rfl, by decide, rfl, by decide, ?_, ?_⟩
  · intro k h0 h2
    obtain rfl : k = 1 := by omega
    exact ⟨_, rfl, rfl, rfl⟩
  · intro q h
    obtain rfl := Option.some.inj h
    decide

/-- O56, for each clause. -/
theorem witness_tube_control :
    (bit (0xC0 : Byte) 7 = true ∧ bit (0xC0 : Byte) 6 = true) ∧ ¬ (bit (0x7F : Byte) 7 = true ∧ bit (0x7F : Byte) 6 =
      true) :=
  by decide

/-- O58, with an empty and a full ring. -/
theorem witness_tube_ring :
    0 < State.reset.cfg.tubeDepth ∧ State.reset.tube.p2h1.length = State.reset.cfg.tubeDepth ∧
    State.reset.tube.p2h1Wr < State.reset.cfg.tubeDepth ∧ State.reset.tube.p2h1Count ≤ State.reset.cfg.tubeDepth ∧
    State.reset.tube.ring State.reset.cfg = [] ∧
    ({ Tube.initial 24 with p2h1Count := 24 } : Tube).p2h1Count ≤ State.reset.cfg.tubeDepth ∧
    ({ Tube.initial 24 with p2h1Count := 24 } : Tube).ring State.reset.cfg ≠ [] := by decide

/-- O59, with none, one and two bytes waiting. -/
theorem witness_tube_channel3 :
    State.reset.tube.h2p3.count ≤ 2 ∧ State.reset.tube.p2h3.count ≤ 2 ∧
    (⟨0xAA, 0xBB, 2⟩ : Pair).count ≤ 2 ∧ (⟨0xAA, 0xBB, 1⟩ : Pair).count ≠ 0 := by decide

/-- O60, released and held in reset. -/
theorem witness_tube_consistent :
    0 < Config.default.tubeDepth ∧ (Tube.initial 24).Consistent Config.default ∧
    ({ Tube.initial 24 with tstat := 0x20 } : Tube).tstat.getLsbD 5 = true ∧
    ({ Tube.initial 24 with tstat := 0x20 } : Tube).Consistent Config.default := by
  refine ⟨by decide, ?_, rfl, ?_⟩ <;> constructor <;> decide

end Sys2Proof.Tests
end

section
/-! PROOFS. The byte image of the flags (O17): how `bit` reads an assembled byte and a masked one, then what a push of the
flags holds in each bit and what a pull takes back. -/

namespace Sys2Proof.Machine

/-! ### Bits of a byte -/

/-- The arguments of `byteOfBits`, listed from bit 0 up, are the bits of the byte it assembles (R7). -/
theorem bit_byteOfBits (b7 b6 b5 b4 b3 b2 b1 b0 : Bool) (k : Fin 8) :
    bit (byteOfBits b7 b6 b5 b4 b3 b2 b1 b0) k.val = #v[b0, b1, b2, b3, b4, b5, b6, b7][k] := by
  -- `getLsbD_append` applies only where the width is written as the sum the appends give.
  change BitVec.getLsbD (w := 1 + 1 + 1 + 1 + 1 + 1 + 1 + 1) (_ ++ _) k.val = _
  simp only [BitVec.getLsbD_append, BitVec.getLsbD_ofBool]
  match k with
  | 0 | 1 | 2 | 3 | 4 | 5 | 6 | 7 => rfl

/-- Merging two bytes under a mask takes the bits of `x` where the mask is 1 and those of `t` where it is 0. -/
theorem bit_merge (t x m : Byte) (k : Fin 8) :
    bit ((t &&& ~~~m) ||| (x &&& m)) k.val = if bit m k.val then bit x k.val else bit t k.val := by
  have hk : k.val < 8 := k.isLt
  unfold bit
  simp only [BitVec.getLsbD_or, BitVec.getLsbD_and, BitVec.getLsbD_not, decide_eq_true hk, Bool.true_and]
  cases m.getLsbD k.val
  · simp only [Bool.not_false, Bool.and_true, Bool.and_false, Bool.or_false, Bool.false_eq_true, if_false]
  · simp only [Bool.not_true, Bool.and_true, Bool.and_false, Bool.false_or, if_true]

/-! ### The byte image of the flags -/

/-- Bits 0 up to 7 of `PByte(b)` (R10, R23). -/
theorem Flags.bit_toByte (p : Flags) (b : Bool) (k : Fin 8) :
    bit (p.toByte b) k.val = #v[p.c, p.z, p.i, p.d, b, true, p.v, p.n][k] :=
  bit_byteOfBits p.n p.v true b p.d p.i p.z p.c k

/-- A pull after a push takes the six flags back, whatever the break marker was (R265). -/
@[simp] theorem Flags.ofByte_toByte (p : Flags) (b : Bool) : Flags.ofByte (p.toByte b) = p := by
  have hbit := p.bit_toByte b
  cases p
  simp only [Flags.ofByte, Flags.mk.injEq]
  exact ⟨hbit 7, hbit 6, hbit 3, hbit 2, hbit 1, hbit 0⟩

/-- A pull depends on six bits of the byte: bits 5 and 4, the mask `$30`, may come from any other byte (R265). -/
theorem Flags.ofByte_merge_bits_5_4 (t x : Byte) :
    Flags.ofByte ((t &&& 0xCF) ||| (x &&& 0x30)) = Flags.ofByte t := by
  have hbit := bit_merge t x 0x30
  simp only [Flags.ofByte, Flags.mk.injEq]
  exact ⟨hbit 7, hbit 6, hbit 3, hbit 2, hbit 1, hbit 0⟩

/-- Settles O17: each bit by `Flags.bit_toByte`; the pull ignores bits 5 and 4 and inverts the push. -/
theorem flagsByte : Obligations.FlagsByte := by
  intro p b
  have hbit := p.bit_toByte b
  have hpull (x : Byte) : Flags.ofByte ((p.toByte b &&& 0xCF) ||| (x &&& 0x30)) = p := by
    rw [Flags.ofByte_merge_bits_5_4, Flags.ofByte_toByte]
  exact ⟨hbit 7, hbit 6, hbit 5, hbit 4, hbit 3, hbit 2, hbit 1, hbit 0, hpull⟩

end Sys2Proof.Machine
end

section
/-! PROOFS. What the CPU's access alone does (R101, R102): its effect at each device, and what every access leaves alone. -/

namespace Sys2Proof.Machine

/-! ### One VIA of the two -/

/-- The agent that answers in a VIA's window. -/
def viaTarget : ViaId → Target
  | .system => .sysVia
  | .user => .usrVia

/-- The VIA that is not this one. -/
def otherVia : ViaId → ViaId
  | .system => .user
  | .user => .system

@[simp] theorem State.setVia_via (id : ViaId) (v : Via) (s : State) : (s.setVia id v).via id = v := by
  cases id <;> rfl

@[simp] theorem State.setVia_via_other (id : ViaId) (v : Via) (s : State) :
    (s.setVia id v).via (otherVia id) = s.via (otherVia id) := by
  cases id <;> rfl

@[simp] theorem State.setVia_cfg (id : ViaId) (v : Via) (s : State) : (s.setVia id v).cfg = s.cfg := by
  cases id <;> rfl

@[simp] theorem State.latch_via (id : ViaId) (s : State) (a : Word) (v : Byte) (r : Bool) :
    (s.latch a v r).via id = s.via id := by
  cases id <;> rfl

/-! ### The access at each device -/

theorem busRead_via {id : ViaId} {a : Word} {s : State} (h : target s.cfg a = viaTarget id) :
    busRead a s =
      let x := (s.via id).regRead s.cfg (viaReg a)
      (x.1, (s.setVia id x.2).latch a x.1 true) := by
  unfold busRead busValue
  cases id <;> simp only [h, viaTarget] <;> rfl

theorem busRead_fdc {a : Word} {s : State} (h : target s.cfg a = .fdc) :
    busRead a s =
      let x := s.fdc.regRead s.cfg (fdcReg a)
      (x.1, ({ s with fdc := x.2 } : State).latch a x.1 true) := by
  simp only [busRead, busValue, h]

theorem busRead_tube {a : Word} {s : State} (h : target s.cfg a = .tube) :
    busRead a s =
      let x := s.tube.hostRead s.cfg (tubeReg a)
      (x.1, ({ s with tube := x.2 } : State).latch a x.1 true) := by
  simp only [busRead, busValue, h]

theorem busStore_via {id : ViaId} {a : Word} {s : State} (h : target s.cfg a = viaTarget id) (v : Byte) :
    busStore a v s = .ok (s.setVia id ((s.via id).regWrite s.cfg (viaReg a) v)) := by
  unfold busStore
  cases id <;> simp only [h, viaTarget] <;> rfl

theorem busStore_fdc {a : Word} {s : State} (h : target s.cfg a = .fdc) (v : Byte) :
    busStore a v s = (s.fdc.regWrite s.cfg (fdcReg a) v).map fun f => { s with fdc := f } := by
  simp only [busStore, h]
  cases s.fdc.regWrite s.cfg (fdcReg a) v <;> rfl

theorem busStore_tube {a : Word} {s : State} (h : target s.cfg a = .tube) (v : Byte) :
    busStore a v s = .ok { s with tube := s.tube.hostWrite s.cfg (tubeReg a) v } := by
  simp only [busStore, h]

theorem busWrite_eq_map (a : Word) (v : Byte) (s : State) :
    busWrite a v s = (busStore a v s).map fun t => t.latch a v false := by
  unfold busWrite
  cases busStore a v s <;> rfl

/-! ### What every access leaves alone -/

/-- What the CPU's access at `a` keeps, whether it reads or writes: the registers, the CPU's view of the NMI line, the
parameters, the script, and the Tube unless the address is its own. -/
structure AccessFrame (a : Word) (s t : State) : Prop where
  regs : t.regs = s.regs
  nmiPending : t.cpu.nmiPending = s.cpu.nmiPending
  nmiLine : t.cpu.nmiLine = s.cpu.nmiLine
  cfg : t.cfg = s.cfg
  script : t.script = s.script
  tube : target s.cfg a ≠ .tube → t.tube = s.tube

theorem AccessFrame.latch {a : Word} {s t : State} (h : AccessFrame a s t) (v : Byte) (r : Bool) :
    AccessFrame a s (t.latch a v r) :=
  ⟨h.regs, h.nmiPending, h.nmiLine, h.cfg, h.script, h.tube⟩

theorem busRead_frame (a : Word) (s : State) : AccessFrame a s (busRead a s).2 := by
  refine AccessFrame.latch ?_ _ _
  unfold busValue
  cases ht : target s.cfg a with
  | tube => exact ⟨rfl, rfl, rfl, rfl, rfl, fun h => absurd ht h⟩
  | _ => exact ⟨rfl, rfl, rfl, rfl, rfl, fun _ => rfl⟩

/-- A store that completes keeps all of that, and every byte but the one that RAM takes. -/
theorem busStore_frame {a : Word} {v : Byte} {s t : State} (h : busStore a v s = .ok t) :
    AccessFrame a s t ∧ t.mem = if target s.cfg a = .ram then Memory.write s.mem a.toNat v else s.mem := by
  unfold busStore at h
  cases ht : target s.cfg a with
  | fdc =>
    cases hf : s.fdc.regWrite s.cfg (fdcReg a) v with
    | ok f =>
      simp only [ht, hf, Except.ok.injEq] at h
      subst h
      exact ⟨⟨rfl, rfl, rfl, rfl, rfl, fun _ => rfl⟩, rfl⟩
    | error e => simp [ht, hf] at h
  | tube =>
    simp only [ht, Except.ok.injEq] at h
    subst h
    exact ⟨⟨rfl, rfl, rfl, rfl, rfl, fun hne => absurd ht hne⟩, rfl⟩
  | _ =>
    simp only [ht, Except.ok.injEq] at h
    subst h
    exact ⟨⟨rfl, rfl, rfl, rfl, rfl, fun _ => rfl⟩, rfl⟩

theorem busWrite_frame {a : Word} {v : Byte} {s t : State} (h : busWrite a v s = .ok t) :
    AccessFrame a s t ∧ t.mem = if target s.cfg a = .ram then Memory.write s.mem a.toNat v else s.mem := by
  unfold busWrite at h
  cases hst : busStore a v s with
  | ok u =>
    simp only [hst, Except.ok.injEq] at h
    subst h
    obtain ⟨hframe, hmem⟩ := busStore_frame hst
    exact ⟨hframe.latch v false, hmem⟩
  | error e => simp [hst] at h

/-- A write leaves every other address as it was, whether or not memory is canonical. -/
theorem Memory.read_write_ne (m : List Host.Cell) {a b : Nat} (v : Byte) (h : b ≠ a) :
    Memory.read (Memory.write m a v) b = Memory.read m b := by
  induction m with
  | nil => by_cases hv : v = Memory.blank <;> simp [Memory.write, Memory.read, hv, h]
  | cons cell rest ih =>
    obtain ⟨k, w⟩ := cell
    unfold Memory.write
    by_cases hlt : a < k
    · by_cases hv : v = Memory.blank <;> simp [hlt, hv, Memory.read, h]
    · by_cases heq : a = k
      · subst heq
        by_cases hv : v = Memory.blank <;> simp [hv, Memory.read, h]
      · simp [hlt, heq, Memory.read, ih]

end Sys2Proof.Machine
end

section
/-! PROOFS. An access in a device's window is the register access the device decodes (O34): first what `exec` makes of each
device's decoder, then the two shapes, a read and a write, that every device shares. -/

namespace Sys2Proof.Machine

/-! ### What the devices' decoders mean (R160, R165, R175) -/

theorem exec_decodeViaRead (id : ViaId) (r : BitVec 4) (s : State) :
    exec (decodeViaRead id r) s = viaReadAt id (r.setWidth 16) ((s.via id).regRead s.cfg r) s := by
  obtain ⟨⟨k, hk⟩⟩ := r
  match k, hk with
  | 0, _ | 1, _ | 2, _ | 3, _ | 4, _ | 5, _ | 6, _ | 7, _ | 8, _ | 9, _ | 10, _ | 11, _ | 12, _ | 13, _ | 14, _ | 15, _ => rfl
  | k + 16, hk => exact absurd hk (by omega)

theorem exec_decodeViaWrite (id : ViaId) (r : BitVec 4) (v : Byte) (s : State) :
    exec (decodeViaWrite id r v) s = viaWriteAt id (r.setWidth 16) v ((s.via id).regWrite s.cfg r v) s := by
  obtain ⟨⟨k, hk⟩⟩ := r
  match k, hk with
  | 0, _ | 1, _ | 2, _ | 3, _ | 4, _ | 5, _ | 6, _ | 7, _ | 8, _ | 9, _ | 10, _ | 11, _ | 12, _ | 13, _ | 14, _ | 15, _ => rfl
  | k + 16, hk => exact absurd hk (by omega)

theorem exec_decodeFdcRead (r : BitVec 2) (s : State) :
    exec (decodeFdcRead r) s = fdcReadAt (r.setWidth 16) (s.fdc.regRead s.cfg r) s := by
  obtain ⟨k⟩ := r
  match k with
  | 0 | 1 | 2 | 3 => rfl

theorem exec_decodeFdcWrite (r : BitVec 2) (v : Byte) (s : State) :
    exec (decodeFdcWrite r v) s = fdcWriteAt (r.setWidth 16) v (s.fdc.regWrite s.cfg r v) s := by
  obtain ⟨k⟩ := r
  match k with
  | 0 | 1 | 2 | 3 => rfl

theorem exec_decodeTubeHostRead (r : BitVec 3) (s : State) :
    exec (decodeTubeHostRead r) s = tubeHostReadAt (r.setWidth 16) (s.tube.hostRead s.cfg r) s := by
  obtain ⟨k⟩ := r
  match k with
  | 0 | 1 | 2 | 3 | 4 | 5 | 6 | 7 => rfl

theorem exec_decodeTubeHostWrite (r : BitVec 3) (v : Byte) (s : State) :
    exec (decodeTubeHostWrite r v) s = tubeHostWriteAt (r.setWidth 16) v (s.tube.hostWrite s.cfg r v) s := by
  obtain ⟨k⟩ := r
  match k with
  | 0 | 1 | 2 | 3 | 4 | 5 | 6 | 7 => rfl

/-! ### The two shapes of a device access -/

/-- The read at `a` delivers the byte and leaves the world of the instruction `rd`, and touches neither the registers nor
memory. -/
def ReadReaches (a : Word) (s : State) (rd : Instr) : Prop :=
  ∃ t, exec rd s = .next t ∧ (busRead a s).1 = t.cpu.dbus ∧ (busRead a s).2.world = t.world ∧
    (busRead a s).2.regs = s.regs ∧ (busRead a s).2.mem = s.mem

/-- The write at `a` leaves the world of the instruction `wr` or is refused with its reason, and touches neither the
registers nor memory. -/
def WriteReaches (a : Word) (v : Byte) (s : State) (wr : Instr) : Prop :=
  (∀ u, busWrite a v s = .ok u → ∃ t, exec wr s = .next t ∧ u.world = t.world ∧ u.regs = s.regs ∧ u.mem = s.mem) ∧
    ∀ e, busWrite a v s = .error e → exec wr s = .refused e

/-- An instruction that differs from the read in the bus address it shows alone is reached by it. -/
theorem readReaches_of_latch {a shown : Word} {x : Byte} {s t : State} {rd : Instr}
    (hbus : busRead a s = (x, t.latch a x true)) (hexec : exec rd s = .next (t.latch shown x true)) :
    ReadReaches a s rd := by
  refine ⟨_, hexec, ?_, ?_, busRead_regs a s, busRead_mem a s⟩ <;> rw [hbus] <;> rfl

/-- An instruction that differs from the write in the bus address it shows alone is reached by it. -/
theorem writeReaches_of_latch {a : Word} (shown : Word) {v : Byte} {s : State} {wr : Instr} (hram : target s.cfg a ≠ .ram)
    (hexec : exec wr s = ofExcept ((busStore a v s).map fun t => t.latch shown v false)) : WriteReaches a v s wr := by
  unfold WriteReaches
  rw [busWrite_eq_map, hexec]
  cases hst : busStore a v s with
  | ok t =>
    obtain ⟨hframe, hmem⟩ := busStore_frame hst
    rw [if_neg hram] at hmem
    refine ⟨?_, by rintro e ⟨⟩⟩
    rintro u ⟨⟩
    exact ⟨_, rfl, rfl, hframe.regs, hmem⟩
  | error e =>
    refine ⟨by rintro u ⟨⟩, ?_⟩
    rintro e' ⟨⟩
    rfl

/-! ### The devices -/

theorem via_reached {id : ViaId} {a : Word} {s : State} (v : Byte) (h : target s.cfg a = viaTarget id) :
    ReadReaches a s (decodeViaRead id (viaReg a)) ∧ WriteReaches a v s (decodeViaWrite id (viaReg a) v) := by
  have hram : target s.cfg a ≠ .ram := by rw [h]; cases id <;> decide
  refine ⟨readReaches_of_latch (busRead_via h) (exec_decodeViaRead id _ s),
    writeReaches_of_latch (regAddr (viaBase s.cfg id) 15 ((viaReg a).setWidth 16)) hram ?_⟩
  rw [busStore_via h, exec_decodeViaWrite]
  rfl

theorem fdc_reached {a : Word} {s : State} (v : Byte) (h : target s.cfg a = .fdc) :
    ReadReaches a s (decodeFdcRead (fdcReg a)) ∧ WriteReaches a v s (decodeFdcWrite (fdcReg a) v) := by
  have hram : target s.cfg a ≠ .ram := by rw [h]; decide
  refine ⟨readReaches_of_latch (busRead_fdc h) (exec_decodeFdcRead _ s),
    writeReaches_of_latch (regAddr s.cfg.fdcBase 3 ((fdcReg a).setWidth 16)) hram ?_⟩
  rw [busStore_fdc h, exec_decodeFdcWrite]
  cases s.fdc.regWrite s.cfg (fdcReg a) v <;> rfl

theorem tube_reached {a : Word} {s : State} (v : Byte) (h : target s.cfg a = .tube) :
    ReadReaches a s (decodeTubeHostRead (tubeReg a)) ∧ WriteReaches a v s (decodeTubeHostWrite (tubeReg a) v) := by
  have hram : target s.cfg a ≠ .ram := by rw [h]; decide
  refine ⟨readReaches_of_latch (busRead_tube h) (exec_decodeTubeHostRead _ s),
    writeReaches_of_latch (regAddr s.cfg.tubeBase 7 ((tubeReg a).setWidth 16)) hram ?_⟩
  rw [busStore_tube h, exec_decodeTubeHostWrite]
  rfl

/-- Settles O34, one device window at a time. -/
theorem busReachesDevices : Obligations.BusReachesDevices := by
  intro a v s rd wr hwindow
  obtain ⟨h, rfl, rfl⟩ | ⟨h, rfl, rfl⟩ | ⟨h, rfl, rfl⟩ | ⟨h, rfl, rfl⟩ := hwindow
  · exact via_reached (id := .system) v h
  · exact via_reached (id := .user) v h
  · exact fdc_reached v h
  · exact tube_reached v h

end Sys2Proof.Machine
end

section
/-! PROOFS. The order of a system cycle (O33, R114): what its two halves do to a VIA, to the interrupt lines and to the Tube,
and so what a read cycle and a completed write cycle do. -/

namespace Sys2Proof.Machine

/-! ### A cycle is a first half, an access and a second half -/

theorem readCycle_of_busRead {a : Word} {x : Byte} {s t : State} (h : busRead a s.beginCycle = (x, t)) :
    readCycle a s = (x, t.endCycle) := by
  simp only [readCycle, h]

theorem writeCycle_of_busWrite {a : Word} {v : Byte} {s t : State} (h : busWrite a v s.beginCycle = .ok t) :
    writeCycle a v s = .next t.endCycle := by
  simp only [writeCycle, h]

/-- A write cycle that completes is the second half of a cycle after a write that completed. -/
theorem writeCycle_next_inv {a : Word} {v : Byte} {s u : State} (h : writeCycle a v s = .next u) :
    ∃ t, busWrite a v s.beginCycle = .ok t ∧ u = t.endCycle := by
  unfold writeCycle at h
  cases hb : busWrite a v s.beginCycle with
  | ok t =>
    rw [hb] at h
    cases h
    exact ⟨t, rfl, rfl⟩
  | error e =>
    rw [hb] at h
    cases h

/-- Every cycle that completes has an access in its middle that keeps what every access keeps. -/
theorem completed_cycle {a : Word} {v : Byte} {s q : State} (h : q = (readCycle a s).2 ∨ writeCycle a v s = .next q) :
    ∃ t, AccessFrame a s.beginCycle t ∧ q = t.endCycle := by
  obtain rfl | h := h
  · exact ⟨_, busRead_frame a s.beginCycle, rfl⟩
  · obtain ⟨t, hb, hq⟩ := writeCycle_next_inv h
    exact ⟨t, (busWrite_frame hb).1, hq⟩

/-- A completed write cycle changes no register and no byte but the one stored in RAM. -/
theorem writeCycle_frame {a : Word} {v : Byte} {s u : State} (h : writeCycle a v s = .next u) :
    u.regs = s.regs ∧ ∀ b, (target s.cfg a = .ram → b ≠ a) → u.peek b = s.peek b := by
  obtain ⟨t, hb, rfl⟩ := writeCycle_next_inv h
  obtain ⟨hframe, hmem⟩ := busWrite_frame hb
  simp only [State.beginCycle_cfg, State.beginCycle_mem] at hmem
  refine ⟨by simp [hframe.regs], fun b hne => ?_⟩
  simp only [State.peek, State.endCycle_mem, hmem]
  by_cases hram : target s.cfg a = .ram
  · rw [if_pos hram]
    exact Memory.read_write_ne _ _ fun heq => hne hram (BitVec.eq_of_toNat_eq heq)
  · rw [if_neg hram]

/-! ### The VIAs between their edges -/

/-- The environment's levels on a VIA. -/
def EnvLevels.lines (e : EnvLevels) : ViaId → ViaLines
  | .system => e.sys
  | .user => e.usr

/-- With the order of R114 the first half puts the levels on a VIA and gives it its leading edge. -/
theorem State.beginCycle_via {s : State} (h : s.cfg.agentOrder = {}) (id : ViaId) :
    s.beginCycle.via id = ((s.takeInput.via id).applyLines (s.takeInput.env.lines id)).leadingEdge := by
  rw [State.beginCycle_ordered s h]
  unfold State.parasiteBefore
  cases id <;> split <;> rfl

/-- With the order of R114 the second half gives a VIA its trailing edge. -/
theorem State.endCycle_via {s : State} (h : s.cfg.agentOrder = {}) (id : ViaId) :
    s.endCycle.via id = (s.via id).trailingEdge := by
  rw [State.endCycle_ordered s h]
  unfold State.parasiteAfter
  cases id <;> split <;> rfl

/-- A cycle at an address of VIA `id`, with the order of R114: the register access stands between the edges of that VIA, and
the other VIA takes both of its own. -/
theorem via_cycle {id : ViaId} {a : Word} {s : State} (horder : s.cfg.agentOrder = {})
    (h : target s.cfg a = viaTarget id) (v : Byte) :
    (readCycle a s).1 = ((s.beginCycle.via id).regRead s.cfg (viaReg a)).1 ∧
      (readCycle a s).2.via id = ((s.beginCycle.via id).regRead s.cfg (viaReg a)).2.trailingEdge ∧
      (readCycle a s).2.via (otherVia id) = (s.beginCycle.via (otherVia id)).trailingEdge ∧
      ∃ u, writeCycle a v s = .next u ∧
        u.via id = ((s.beginCycle.via id).regWrite s.cfg (viaReg a) v).trailingEdge ∧
        u.via (otherVia id) = (s.beginCycle.via (otherVia id)).trailingEdge := by
  have hbegin : target s.beginCycle.cfg a = viaTarget id := by simpa using h
  have hread := busRead_via hbegin
  have hwrite := busWrite_eq_map a v s.beginCycle
  rw [busStore_via hbegin] at hwrite
  rw [State.beginCycle_cfg] at hread hwrite
  have hend (w : Via) (x : Byte) (r : Bool) (j : ViaId) :
      ((s.beginCycle.setVia id w).latch a x r).endCycle.via j = ((s.beginCycle.setVia id w).via j).trailingEdge := by
    rw [State.endCycle_via (by simpa using horder), State.latch_via]
  rw [readCycle_of_busRead hread]
  refine ⟨rfl, ?_, ?_, _, writeCycle_of_busWrite hwrite, ?_, ?_⟩ <;> rw [hend]
  · rw [State.setVia_via]
  · rw [State.setVia_via_other]
  · rw [State.setVia_via]
  · rw [State.setVia_via_other]

/-! ### The interrupt lines (R603, R613) -/

/-- No agent's step touches the CPU. -/
theorem State.runPhases_cpu (ps : List AgentPhase) (s : State) : (State.runPhases ps s).cpu = s.cpu := by
  induction ps generalizing s with
  | nil => rfl
  | cons p rest ih =>
    have hp : (s.runPhase p).cpu = s.cpu := by cases p <;> rfl
    exact (ih _).trans hp

theorem State.parasiteBefore_cpu (s : State) : s.parasiteBefore.cpu = s.cpu := by
  unfold State.parasiteBefore
  cases s.script <;> rfl

theorem State.parasiteAfter_cpu (s : State) : s.parasiteAfter.cpu = s.cpu := by
  unfold State.parasiteAfter
  cases s.script <;> rfl

/-- The first half moves neither the NMI line nor its latch. -/
theorem State.beginCycle_nmi (s : State) :
    s.beginCycle.cpu.nmiPending = s.cpu.nmiPending ∧ s.beginCycle.cpu.nmiLine = s.cpu.nmiLine := by
  unfold State.beginCycle
  rw [State.runPhases_cpu, State.parasiteBefore_cpu]
  unfold State.takeInput
  cases s.script <;> exact ⟨rfl, rfl⟩

/-- The second half ends with the lines as their sources have them and the latch set by a rise of the NMI line. -/
theorem State.endCycle_lines (s : State) :
    s.endCycle.cpu.irqLine = s.endCycle.irqSources ∧ s.endCycle.cpu.nmiLine = s.endCycle.nmiSources ∧
      s.endCycle.cpu.nmiPending = (s.cpu.nmiPending || (!s.cpu.nmiLine && s.endCycle.nmiSources)) := by
  refine ⟨rfl, rfl, ?_⟩
  have hcpu : (State.runPhases s.cfg.agentOrder.after s.parasiteAfter).cpu = s.cpu := by
    rw [State.runPhases_cpu, State.parasiteAfter_cpu]
  change ((State.runPhases s.cfg.agentOrder.after s.parasiteAfter).cpu.nmiPending ||
    (!(State.runPhases s.cfg.agentOrder.after s.parasiteAfter).cpu.nmiLine && s.endCycle.nmiSources)) = _
  rw [hcpu]

/-- After a completed cycle the lines are as their sources have them, and an NMI is pending if it was or if the line has
risen. -/
theorem completed_cycle_lines {a : Word} {v : Byte} {s q : State}
    (h : q = (readCycle a s).2 ∨ writeCycle a v s = .next q) :
    q.cpu.irqLine = q.irqSources ∧ q.cpu.nmiLine = q.nmiSources ∧
      (q.cpu.nmiPending = true ↔ s.cpu.nmiPending = true ∨ (s.cpu.nmiLine = false ∧ q.cpu.nmiLine = true)) := by
  obtain ⟨t, hframe, rfl⟩ := completed_cycle h
  obtain ⟨hirq, hnmi, hpending⟩ := t.endCycle_lines
  obtain ⟨hpending0, hnmi0⟩ := s.beginCycle_nmi
  rw [hframe.nmiPending, hframe.nmiLine, hpending0, hnmi0, ← hnmi] at hpending
  exact ⟨hirq, hnmi, by simp [hpending]⟩

/-! ### The Tube between the parasite's accesses (R115) -/

/-- The lists of parasite accesses that a cycle's input, the head of the script, holds before the CPU's access and after. -/
def ParasiteLists (script : List EnvInput) (before after : List ParasiteAccess) : Prop :=
  script = [] ∧ before = [] ∧ after = [] ∨
    ∃ e, script.head? = some e ∧ before = e.parasiteBefore ∧ after = e.parasiteAfter

/-- The first half of a cycle runs the first list on the Tube. -/
theorem State.beginCycle_tube_of_lists {s : State} {before after : List ParasiteAccess}
    (h : ParasiteLists s.script before after) : s.beginCycle.tube = Tube.parasiteRun s.cfg before s.tube := by
  rw [s.beginCycle_tube.1]
  obtain ⟨hscript, rfl, -⟩ | ⟨e, hhead, rfl, -⟩ := h
  · rw [hscript]
    rfl
  · obtain ⟨rest, hscript⟩ := List.head?_eq_some_iff.mp hhead
    rw [hscript]

/-- The second half of a cycle runs the second list on the Tube. -/
theorem State.endCycle_tube_of_lists {s : State} {before after : List ParasiteAccess}
    (h : ParasiteLists s.script before after) : s.endCycle.tube = Tube.parasiteRun s.cfg after s.tube := by
  rw [s.endCycle_tube.1]
  obtain ⟨hscript, -, rfl⟩ | ⟨e, hhead, -, rfl⟩ := h
  · rw [hscript]
    rfl
  · obtain ⟨rest, hscript⟩ := List.head?_eq_some_iff.mp hhead
    rw [hscript]

/-- The same in terms of the state the cycle began in, whatever the access in between. -/
theorem AccessFrame.endCycle_tube {a : Word} {s t : State} {before after : List ParasiteAccess}
    (h : AccessFrame a s.beginCycle t) (hlists : ParasiteLists s.script before after) :
    t.endCycle.tube = Tube.parasiteRun s.cfg after t.tube := by
  have hscript : t.script = s.script := h.script.trans s.beginCycle_tube.2
  have hcfg : t.cfg = s.cfg := h.cfg.trans s.beginCycle_cfg
  rw [State.endCycle_tube_of_lists (hscript ▸ hlists), hcfg]

/-- A cycle at an address of the Tube: the CPU's access stands between the two lists. -/
theorem tube_cycle {a : Word} {s : State} {before after : List ParasiteAccess}
    (hlists : ParasiteLists s.script before after) (h : target s.cfg a = .tube) (v : Byte) :
    (readCycle a s).1 = ((Tube.parasiteRun s.cfg before s.tube).hostRead s.cfg (tubeReg a)).1 ∧
      (readCycle a s).2.tube = Tube.parasiteRun s.cfg after
        ((Tube.parasiteRun s.cfg before s.tube).hostRead s.cfg (tubeReg a)).2 ∧
      ∃ u, writeCycle a v s = .next u ∧ u.tube = Tube.parasiteRun s.cfg after
        ((Tube.parasiteRun s.cfg before s.tube).hostWrite s.cfg (tubeReg a) v) := by
  have hbegin : target s.beginCycle.cfg a = .tube := by simpa using h
  have hread := busRead_tube hbegin
  have hwrite := busWrite_eq_map a v s.beginCycle
  rw [busStore_tube hbegin] at hwrite
  rw [State.beginCycle_cfg, State.beginCycle_tube_of_lists hlists] at hread hwrite
  have hreadFrame := busRead_frame a s.beginCycle
  rw [hread] at hreadFrame
  rw [readCycle_of_busRead hread]
  exact ⟨rfl, hreadFrame.endCycle_tube hlists, _, writeCycle_of_busWrite hwrite,
    (busWrite_frame hwrite).1.endCycle_tube hlists⟩

/-- A completed cycle uses up its input, and away from the Tube's addresses the Tube sees the two lists alone. -/
theorem completed_cycle_tube {a : Word} {v : Byte} {s q : State} {before after : List ParasiteAccess}
    (hlists : ParasiteLists s.script before after) (h : q = (readCycle a s).2 ∨ writeCycle a v s = .next q) :
    q.script = s.script.tail ∧
      (target s.cfg a ≠ .tube → q.tube = Tube.parasiteRun s.cfg (before ++ after) s.tube) := by
  obtain ⟨t, hframe, rfl⟩ := completed_cycle h
  refine ⟨?_, fun hne => ?_⟩
  · rw [t.endCycle_tube.2, hframe.script, s.beginCycle_tube.2]
  · have htube : t.tube = s.beginCycle.tube := hframe.tube (by simpa using hne)
    rw [hframe.endCycle_tube hlists, htube, State.beginCycle_tube_of_lists hlists, Tube.parasiteRun_append]

/-- A parasite held in reset performs none of its accesses (R582). -/
theorem Tube.parasiteRun_held {t : Tube} (h : t.tstat.getLsbD 5 = true) (cfg : Config) (x : ParasiteAccess)
    (rest : List ParasiteAccess) : Tube.parasiteRun cfg (x :: rest) t = Tube.parasiteRun cfg rest t := by
  simp only [Tube.parasiteRun, Tube.prst, h, if_true]

/-- A parasite out of reset performs its accesses one by one (R551). -/
theorem Tube.parasiteRun_released {t : Tube} (h : t.tstat.getLsbD 5 = false) (cfg : Config) (x : ParasiteAccess)
    (rest : List ParasiteAccess) :
    Tube.parasiteRun cfg (x :: rest) t = Tube.parasiteRun cfg rest (t.parasiteAccess cfg x) := by
  simp only [Tube.parasiteRun, Tube.prst, h, Bool.false_eq_true, if_false]

/-- Settles O33: the VIAs between their edges, the frames, the lines, and the Tube between the two lists. -/
theorem cycleOrder : Obligations.CycleOrder := by
  intro a d s
  refine ⟨fun horder => ⟨State.beginCycle_via horder .system, State.beginCycle_via horder .user,
      fun h => via_cycle (id := .system) horder h d, fun h => via_cycle (id := .user) horder h d⟩,
    readCycle_regs a s, fun b => readCycle_peek a b s, fun u => writeCycle_frame,
    fun q => completed_cycle_lines, fun before after hlists => ?_, fun t rest => ?_⟩
  · exact ⟨State.beginCycle_tube_of_lists hlists, fun h => tube_cycle hlists h d, fun q => completed_cycle_tube hlists⟩
  · exact ⟨rfl, fun h x => Tube.parasiteRun_held h s.cfg x rest,
      fun h => ⟨fun r => Tube.parasiteRun_released h s.cfg (.read r) rest,
        fun r v => Tube.parasiteRun_released h s.cfg (.write r v) rest⟩⟩

end Sys2Proof.Machine
end

section
/-! PROOFS. The decoder and the encoder are each other's inverse (O26 to O29): what the encoder makes of each opcode's
instruction, what the fixed bits of an FDC command say about its top nibble, then the two directions. -/

namespace Sys2Proof.Machine

/-! ### Little-endian operands (R142) -/

theorem operandWord_setWidth_extractLsb' (w : Word) : operandWord (w.setWidth 8) (w.extractLsb' 8 8) = w := by
  rw [operandWord, BitVec.setWidth_eq_extractLsb' (by decide)]
  exact BitVec.extractLsb'_append_extractLsb' (w := 8)

@[simp] theorem setWidth_operandWord (b1 b2 : Byte) : (operandWord b1 b2).setWidth 8 = b1 :=
  BitVec.setWidth_append_eq_right

@[simp] theorem extractLsb'_operandWord (b1 b2 : Byte) : (operandWord b1 b2).extractLsb' 8 8 = b2 :=
  BitVec.extractLsb'_append_eq_left

/-! ### The opcode map (R143) -/

/-- The bytes the encoder writes behind the opcode for an instruction decoded with operand bytes `b1` and `b2`: a word
operand is assembled and taken apart again. -/
def operandBytes (op b1 b2 : Byte) : List Byte :=
  match operandCount op with
  | 0 => []
  | 1 => [b1]
  | _ => [(operandWord b1 b2).setWidth 8, (operandWord b1 b2).extractLsb' 8 8]

/-- The opcode map entry by entry. The opcode is cut as `aaabbbcc` (R141) only to list its 256 values: the map itself does
not follow those fields. -/
theorem encode_decodeOpcode_fields (aaa bbb : BitVec 3) (cc : BitVec 2) (b1 b2 : Byte) :
    encode (decodeOpcode (aaa ++ bbb ++ cc) b1 b2) =
      .cpu ((aaa ++ bbb ++ cc) :: operandBytes (aaa ++ bbb ++ cc) b1 b2) := by
  obtain ⟨operation⟩ := aaa
  obtain ⟨mode⟩ := bbb
  obtain ⟨group⟩ := cc
  match operation with
  | 0 | 1 | 2 | 3 | 4 | 5 | 6 | 7 =>
    match mode with
    | 0 | 1 | 2 | 3 | 4 | 5 | 6 | 7 =>
      match group with
      | 0 | 1 | 2 | 3 => rfl

theorem encode_decodeOpcode (op b1 b2 : Byte) :
    encode (decodeOpcode op b1 b2) = .cpu (op :: operandBytes op b1 b2) := by
  have h := encode_decodeOpcode_fields (op.extractLsb' 5 3) (op.extractLsb' 2 3) (op.extractLsb' 0 2) b1 b2
  have hop : op.extractLsb' 5 3 ++ op.extractLsb' 2 3 ++ op.extractLsb' 0 2 = op := by
    have hmode : op.extractLsb' 5 3 ++ op.extractLsb' 2 3 = op.extractLsb' 2 6 :=
      BitVec.extractLsb'_append_extractLsb'_eq_extractLsb' rfl
    rw [hmode]
    exact BitVec.extractLsb'_append_extractLsb' (w := 6)
  rwa [hop] at h

/-- What a successful decoding has read: an opcode, then the operand bytes its format takes (R140, R141). -/
theorem decodeBytes_eq_ok {bytes rest : List Byte} {i : Instr} (h : decodeBytes bytes = .ok (i, rest)) :
    ∃ op b1 b2, i = decodeOpcode op b1 b2 ∧ bytes = (op :: operandBytes op b1 b2) ++ rest := by
  unfold decodeBytes at h
  split at h
  · cases h
  next op tail =>
    split at h
    case h_1 hcount =>
      cases h
      exact ⟨op, 0, 0, rfl, by simp only [operandBytes, hcount, List.cons_append, List.nil_append]⟩
    case h_2 b1 _ hcount =>
      cases h
      exact ⟨op, b1, 0, rfl, by simp only [operandBytes, hcount, List.cons_append, List.nil_append]⟩
    case h_3 b1 b2 _ hcount =>
      cases h
      exact ⟨op, b1, b2, rfl, by
        simp only [operandBytes, hcount, setWidth_operandWord, extractLsb'_operandWord, List.cons_append, List.nil_append]⟩
    case h_4 => cases h

/-- Only an FDC command can be ill-formed, and its word is no CPU byte. -/
theorem wellFormed_of_encode_cpu {i : Instr} {used : List Byte} (h : encode i = .cpu used) : i.WellFormed := by
  cases i with
  | fdcCmdRestore v | fdcCmdSeek v | fdcCmdStep v | fdcCmdStepIn v | fdcCmdStepOut v | fdcCmdReadSector v
  | fdcCmdWriteSector v | fdcCmdReadAddress v | fdcCmdForceInterrupt v | fdcCmdReadTrack v | fdcCmdWriteTrack v => cases h
  | _ => rfl

/-- Settles O28: `decodeBytes_eq_ok` names the bytes read, and `encode_decodeOpcode` says that they are the encoding. -/
theorem decodingIsInjective : Obligations.DecodingIsInjective := by
  intro bytes rest i h
  obtain ⟨op, b1, b2, rfl, hbytes⟩ := decodeBytes_eq_ok h
  have hencode := encode_decodeOpcode op b1 b2
  exact ⟨wellFormed_of_encode_cpu hencode, _, hbytes, hencode⟩

/-! ### The FDC's command nibble (R166) -/

/-- The fixed bits of a command, read in the top nibble alone. -/
theorem topNibble_and_of_commandMatches {mask fixed v : Byte} (h : commandMatches mask fixed v = true) :
    v.extractLsb' 4 4 &&& mask.extractLsb' 4 4 = fixed.extractLsb' 4 4 := by
  rw [← BitVec.extractLsb'_and, eq_of_beq h]

/-- A command that fixes all four bits of the nibble. -/
theorem topNibble_of_mask_F0 {fixed v : Byte} (h : commandMatches 0xF0 fixed v = true) :
    v.extractLsb' 4 4 = fixed.extractLsb' 4 4 :=
  (BitVec.and_allOnes (x := v.extractLsb' 4 4)).symm.trans (topNibble_and_of_commandMatches h)

/-- A command that leaves the nibble's lowest bit free has two nibbles. -/
theorem topNibble_of_mask_E0 {fixed v : Byte} (h : commandMatches 0xE0 fixed v = true) :
    v.extractLsb' 4 4 = fixed.extractLsb' 4 4 ∨ v.extractLsb' 4 4 = fixed.extractLsb' 4 4 ||| 1 := by
  have hsplit : ∀ n k : BitVec 4, n &&& 0xE = k → n = k ∨ n = k ||| 1 := by decide
  exact hsplit _ _ (topNibble_and_of_commandMatches h)

/-! ### Every instruction is decoded from its encoding -/

/-- An absolute or indirect instruction is decoded from its opcode and its little-endian word (R141, R142). -/
theorem decode_cpu_word {op : Byte} {f : Word → Instr} (w : Word) (hcount : operandCount op = 2)
    (hop : ∀ b1 b2, decodeOpcode op b1 b2 = f (operandWord b1 b2)) :
    decode (.cpu [op, w.setWidth 8, w.extractLsb' 8 8]) = .ok (f w) := by
  simp only [decode, decodeBytes, hcount, hop, operandWord_setWidth_extractLsb']

/-- Settles O27, by cases on the instruction: a word operand is put together again, an FDC command is found by its nibble,
and every other instruction is the entry of its decoder's table that its words name. -/
theorem roundTrip : Obligations.RoundTrip := by
  intro i hwf
  cases i with
  | oraAbs w | aslAbs w | oraAbsy w | oraAbsx w | aslAbsx w | jsrAbs w | bitAbs w | andAbs w | rolAbs w | andAbsy w
  | andAbsx w | rolAbsx w | jmpAbs w | eorAbs w | lsrAbs w | eorAbsy w | eorAbsx w | lsrAbsx w | jmpInd w | adcAbs w
  | rorAbs w | adcAbsy w | adcAbsx w | rorAbsx w | styAbs w | staAbs w | stxAbs w | staAbsy w | staAbsx w | ldyAbs w
  | ldaAbs w | ldxAbs w | ldaAbsy w | ldyAbsx w | ldaAbsx w | ldxAbsy w | cpyAbs w | cmpAbs w | decAbs w | cmpAbsy w
  | cmpAbsx w | decAbsx w | cpxAbs w | sbcAbs w | incAbs w | sbcAbsy w | sbcAbsx w | incAbsx w =>
    exact decode_cpu_word w rfl fun _ _ => rfl
  | fdcCmdRestore v | fdcCmdSeek v | fdcCmdReadAddress v | fdcCmdForceInterrupt v | fdcCmdReadTrack v
  | fdcCmdWriteTrack v =>
    exact congrArg Except.ok (by rw [decodeFdcCommand, topNibble_of_mask_F0 hwf]; rfl)
  | fdcCmdStep v | fdcCmdStepIn v | fdcCmdStepOut v | fdcCmdReadSector v | fdcCmdWriteSector v =>
    rcases topNibble_of_mask_E0 hwf with h | h <;> exact congrArg Except.ok (by rw [decodeFdcCommand, h]; rfl)
  | _ => rfl

/-- Settles O26, by evaluating the decoders on each of the words. -/
theorem decodedWords : Obligations.DecodedWords :=
  ⟨rfl, rfl, rfl, rfl, rfl, rfl, rfl, rfl, rfl, rfl, rfl, rfl, rfl, rfl, rfl⟩

/-- Settles O29, by cases on the instruction: `cases h` leaves the 105 that have a `reservedForm`, with the opcode put in,
and each is one line of the dispatch, of the encoder and of the format table. -/
theorem reservedOpcodesRefused : Obligations.ReservedOpcodesRefused := by
  intro i op s h
  cases i
  all_goals cases h
  all_goals exact ⟨rfl, rfl, rfl⟩

end Sys2Proof.Machine
end

section
/-! PROOFS. The classes that change registers alone after their read cycles (O1, O4): each instruction is its class's tail
around a change of the register view, and such a tail always completes. -/

namespace Sys2Proof.Machine

/-! ### Changing the register view -/

/-- The state with the registers of the given view. -/
def State.setRegs (s : State) (r : Regs) : State :=
  s.setCpu { s.cpu with a := r.a, x := r.x, y := r.y, s := r.s, pc := r.pc, p := r.p, ir := r.ir }

@[simp] theorem State.setRegs_regs (s : State) (r : Regs) : (s.setRegs r).regs = r := rfl

/-- An instruction that ends with a change of the registers after read cycles completes with that change, and keeps the
memory it started with and the world and the bus that the cycles left. -/
theorem finish_setRegs {f : Regs → Regs} {s t : State} (hreads : ReadsOnly s t) :
    ∃ u, finish (t.setRegs (f t.regs)) = .next u ∧ u.regs = f s.regs ∧ (∀ b, u.peek b = s.peek b) ∧
      u.world = t.world ∧ u.bus = t.bus ∧ AtBoundary u := by
  refine ⟨_, rfl, ?_, hreads.peek, rfl, rfl, State.boundary_atBoundary _⟩
  rw [State.boundary_regs, State.setRegs_regs, hreads.regs]

/-! ### The Read class and the immediate instructions (R202, R214) -/

theorem exec_of_readForm {i : Instr} {k : ReadKind} {m : Operand} (h : readForm i = some (k, m)) (s : State) :
    exec i s = readOp m (fun v t => t.setRegs (k.effect v t.regs)) s := by
  cases i
  all_goals cases h
  all_goals rfl

theorem exec_of_immForm {i : Instr} {k : ReadKind} {v : Byte} (h : immForm i = some (k, v)) (s : State) :
    exec i s = immOp v (fun v t => t.setRegs (k.effect v t.regs)) s := by
  cases i
  all_goals cases h
  all_goals rfl

/-- Settles O1: a memory operand is read by read cycles alone, an immediate one is only latched, and then the registers
change. -/
theorem readClass : Obligations.ReadClass := by
  refine ⟨fun i k m s h => ?_, fun i k v s h => ?_⟩
  · obtain ⟨t, hnext, hregs, hpeek, hworld, -, hend⟩ :=
      finish_setRegs (f := k.effect (readOperand m s).1) (readOperand_reads m s)
    exact ⟨t, (exec_of_readForm h s).trans hnext, hregs, readOperand_plain m s, hpeek, hworld, hend⟩
  · obtain ⟨t, hnext, hregs, hpeek, hworld, hbus, hend⟩ :=
      finish_setRegs (f := k.effect v) ((ReadsOnly.refl s).setOpnd v)
    exact ⟨t, (exec_of_immForm h s).trans hnext, hregs, hpeek, hworld, hbus, hend⟩

/-! ### Implied and accumulator instructions (R200, R201) -/

theorem exec_of_impliedForm {i : Instr} {f : Regs → Regs} (h : impliedForm i = some f) (s : State) :
    exec i s = impliedOp (fun t => t.setRegs (f t.regs)) s := by
  cases i
  all_goals cases h
  all_goals rfl

theorem exec_of_accForm {i : Instr} {k : RmwKind} (h : accForm i = some k) (s : State) :
    exec i s = impliedOp (fun t => t.setRegs
      { t.regs with a := (k.result t.regs.a t.regs.p).r, p := (k.result t.regs.a t.regs.p).p }) s := by
  cases i
  all_goals cases h
  all_goals rfl

/-- Settles O4: both classes change the registers after one discarded read at PC. -/
theorem impliedAndAccumulator : Obligations.ImpliedAndAccumulator := by
  intro i f s h
  have hexec : exec i s = impliedOp (fun t => t.setRegs (f t.regs)) s := by
    obtain himplied | ⟨k, hacc, rfl⟩ := h
    · exact exec_of_impliedForm himplied s
    · exact exec_of_accForm hacc s
  obtain ⟨t, hnext, hregs, hpeek, hworld, hbus, hend⟩ := finish_setRegs (f := f) ((ReadsOnly.refl s).discard s.cpu.pc)
  exact ⟨t, hexec.trans hnext, hregs, hpeek, hworld, hbus.trans (readCycle_bus s.cpu.pc s), hend⟩

end Sys2Proof.Machine
end

section
/-! PROOFS. The classes that write memory (O2, O3): when a write cycle completes and what a completed one leaves, then the
tails of a store and of a read-modify-write instruction taken apart into their cycles. -/

namespace Sys2Proof.Machine

/-! ### Writes the FDC may refuse (R487, R521, R522) -/

theorem accepts_eq_false_iff {cfg : Config} {a : Word} {v : Byte} :
    Accepts cfg a v = false ↔ target cfg a = .fdc ∧ fdcReg a = 0 ∧ 0xE0 ≤ v.toNat := by
  simp [Accepts, and_assoc]

/-- The reason under which an idle controller refuses a command byte from $E0 on. -/
def trackRefusal (v : Byte) : Refusal := if v.toNat < 0xF0 then .fdcReadTrack v else .fdcWriteTrack v

/-- A busy controller ignores a Read Track or Write Track byte; an idle one refuses it. -/
theorem Fdc.writeCommand_track {v : Byte} (hv : 0xE0 ≤ v.toNat) (cfg : Config) (f : Fdc) :
    f.writeCommand cfg v = if f.busy then .ok f else .error (trackRefusal v) := by
  have hlt : v.toNat < 256 := v.isLt
  have hnibble : (v.extractLsb' 4 4).toNat = v.toNat / 16 := by
    simp only [BitVec.extractLsb'_toNat, Nat.shiftRight_eq_div_pow]
    omega
  unfold Fdc.writeCommand trackRefusal
  rw [hnibble]
  by_cases hread : v.toNat < 0xF0
  · have h14 : v.toNat / 16 = 0xE := by omega
    rw [h14, if_pos hread]
    rfl
  · have h15 : v.toNat / 16 = 0xF := by omega
    rw [h15, if_neg hread]
    rfl

/-- A write that is not accepted changes nothing when the controller is busy. -/
theorem busStore_not_accepted {a : Word} {v : Byte} {s : State} (h : Accepts s.cfg a v = false) :
    busStore a v s = if s.fdc.busy then .ok s else .error (trackRefusal v) := by
  obtain ⟨htarget, hreg, hv⟩ := accepts_eq_false_iff.mp h
  have hwrite : s.fdc.regWrite s.cfg 0 v = _ := Fdc.writeCommand_track hv s.cfg s.fdc
  rw [busStore_fdc htarget, hreg, hwrite]
  cases s.fdc.busy <;> rfl

theorem writeCycle_refused {a : Word} {v : Byte} {s : State} (h : Accepts s.cfg a v = false)
    (hidle : s.beginCycle.fdc.busy = false) : writeCycle a v s = .refused (trackRefusal v) := by
  have hstore := busStore_not_accepted (s := s.beginCycle) (by simpa using h)
  simp [writeCycle, busWrite, hstore, hidle]

/-! ### Write cycles that complete -/

theorem writeCycle_completes {a : Word} {v : Byte} {s : State}
    (h : Accepts s.cfg a v = true ∨ s.beginCycle.fdc.busy = true) : ∃ u, writeCycle a v s = .next u := by
  cases haccepts : Accepts s.cfg a v with
  | true =>
    obtain ⟨u, hnext, -⟩ := writeCycle_ok a v s haccepts
    exact ⟨u, hnext⟩
  | false =>
    have hbusy : s.beginCycle.fdc.busy = true := h.resolve_left (by simp [haccepts])
    have hstore := busStore_not_accepted (s := s.beginCycle) (by simpa using haccepts)
    exact ⟨(s.beginCycle.latch a v false).endCycle, by simp [writeCycle, busWrite, hstore, hbusy]⟩

/-- A store shows nothing on the bus by itself: the cycle's latch does. -/
theorem busStore_bus {a : Word} {v : Byte} {s t : State} (h : busStore a v s = .ok t) : t.bus = s.bus := by
  cases htarget : target s.cfg a with
  | fdc =>
    rw [busStore_fdc htarget] at h
    cases hf : s.fdc.regWrite s.cfg (fdcReg a) v <;> rw [hf] at h <;> cases h
    rfl
  | _ =>
    simp only [busStore, htarget, Except.ok.injEq] at h
    subst h
    rfl

/-- What a completed write cycle of `v` at `a` makes of the state before it. -/
structure WriteCompleted (a : Word) (v : Byte) (s u : State) : Prop where
  regs : u.regs = s.regs
  cfg : u.cfg = s.cfg
  bus : u.bus = s.bus ++ [⟨a, v, false⟩]
  mem : u.mem = if target s.cfg a = .ram then Memory.write s.mem a.toNat v else s.mem
  world : Plain s.cfg a → u.world = s.idleCycle.world

theorem writeCompleted_of_next {a : Word} {v : Byte} {s u : State} (h : writeCycle a v s = .next u) :
    WriteCompleted a v s u := by
  obtain ⟨t, hwrite, rfl⟩ := writeCycle_next_inv h
  obtain ⟨hframe, hmem⟩ := busWrite_frame hwrite
  have hbus : t.bus = s.bus ++ [⟨a, v, false⟩] := by
    rw [busWrite_eq_map] at hwrite
    cases hstore : busStore a v s.beginCycle <;> rw [hstore] at hwrite <;> cases hwrite
    rw [State.latch_bus, busStore_bus hstore, State.beginCycle_bus]
  refine ⟨(writeCycle_frame h).1, by simp [hframe.cfg], by simp [hbus], by simpa using hmem, fun hplain => ?_⟩
  obtain ⟨u, hnext, -, -, -, -, hworld⟩ := writeCycle_plain a v s hplain
  cases h.symm.trans hnext
  exact hworld

/-! ### Stores (R215, R253 to R255) -/

theorem exec_of_storeForm {i : Instr} {k : StoreKind} {m : Operand} (h : storeForm i = some (k, m)) (s : State) :
    exec i s = storeOp m (k.value s.regs) s := by
  cases i
  all_goals cases h
  all_goals rfl

theorem storeOp_eq_of_writeCycle {m : Operand} {v : Byte} {s u : State}
    (h : writeCycle (effAddr true m s).1 v (effAddr true m s).2 = .next u) : storeOp m v s = .next u.boundary := by
  simp only [storeOp, h, andThen, finish]

theorem storeOp_refused {m : Operand} {v : Byte} {s : State} {e : Refusal}
    (h : writeCycle (effAddr true m s).1 v (effAddr true m s).2 = .refused e) : storeOp m v s = .refused e := by
  simp only [storeOp, h, andThen]

/-- Settles O2: the one write cycle completes or is refused, and the store with it. -/
theorem writeClass : Obligations.WriteClass := by
  intro i k m s hform hwf
  have hreads := effAddr_reads true m s
  rw [exec_of_storeForm hform]
  refine ⟨fun haccepts => ?_, fun hrefused hidle => ?_⟩
  · rw [← hreads.cfg] at haccepts
    obtain ⟨u, hnext⟩ := writeCycle_completes haccepts
    obtain ⟨hregs, -, hbus, hmem, hworld⟩ := writeCompleted_of_next hnext
    rw [hreads.cfg, hreads.mem] at hmem
    rw [hreads.cfg] at hworld
    exact ⟨u.boundary, u, storeOp_eq_of_writeCycle hnext, hregs.trans hreads.regs,
      stored_of_mem s u.boundary _ _ hwf hmem, hbus, hnext, rfl, hworld, u.boundary_atBoundary⟩
  · rw [← hreads.cfg] at hrefused
    exact storeOp_refused (writeCycle_refused hrefused hidle)

/-! ### Read-modify-write (R216, R299, R300, R305 to R308) -/

theorem exec_of_rmwForm {i : Instr} {k : RmwKind} {m : Operand} (h : rmwForm i = some (k, m)) (s : State) :
    exec i s = rmwOp m k.result s := by
  cases i
  all_goals cases h
  all_goals rfl

theorem andThen_eq_next {o : Host.Outcome State Fault Refusal} {f : State → Host.Outcome State Fault Refusal} {t : State}
    (h : andThen o f = .next t) : ∃ u, o = .next u ∧ f u = .next t := by
  cases o with
  | next u => exact ⟨u, rfl, h⟩
  | fault r => cases r
  | refused r => cases h

/-- A read-modify-write instruction that completes has done a read cycle and two write cycles, the second one after the
flags. -/
theorem rmwOp_next_inv {m : Operand} {op : Byte → Flags → ByteResult} {s t : State} (h : rmwOp m op s = .next t) :
    let ea := (effAddr true m s).1
    let r := readCycle ea (effAddr true m s).2
    ∃ u w, WriteCompleted ea r.1 (r.2.setOpnd r.1) u ∧
      WriteCompleted ea (op r.1 s.cpu.p).r (u.setP (op r.1 s.cpu.p).p) w ∧ t = w.boundary := by
  intro ea r
  obtain ⟨u, hfirst, h⟩ := andThen_eq_next h
  obtain ⟨w, hsecond, h⟩ := andThen_eq_next h
  cases h
  have hu := writeCompleted_of_next hfirst
  have hp : u.cpu.p = s.cpu.p := congrArg Regs.p (hu.regs.trans ((effAddr_reads true m s).read ea).regs)
  rw [hp] at hsecond
  exact ⟨u, w, hu, writeCompleted_of_next hsecond, rfl⟩

/-- Settles O3: `rmwOp_next` gives the registers and memory, the three cycles the bus and the world. -/
theorem rmwClass : Obligations.RmwClass := by
  intro i k m s hform hwf ea r q hfirst hsecond
  have hreads := effAddr_reads true m s
  obtain ⟨t, hnext, hregs, -, -, hpeek, hend⟩ := rmwOp_next m k.result s hwf hfirst hsecond
  obtain ⟨u, w, hu, hw, rfl⟩ := rmwOp_next_inv hnext
  refine ⟨_, (exec_of_rmwForm hform s).trans hnext, hregs, fun hplain => ?_, hpeek, ?_, fun hplain => ?_, hend⟩
  · rw [← hreads.cfg] at hplain
    exact (readCycle_plain _ _ hplain).1.trans (hreads.peek _)
  · calc w.bus = u.bus ++ [⟨ea, q.r, false⟩] := hw.bus
      _ = (r.2.bus ++ [⟨ea, r.1, false⟩]) ++ [⟨ea, q.r, false⟩] := by rw [hu.bus]; rfl
      _ = r.2.bus ++ [⟨ea, r.1, false⟩, ⟨ea, q.r, false⟩] := List.append_assoc ..
  · rw [← hreads.cfg] at hplain
    have hplainRead : Plain r.2.cfg ea := by rwa [readCycle_cfg]
    have hworldRead : r.2.world = (effAddr true m s).2.idleCycle.world := (readCycle_plain _ _ hplain).2
    have hworldFirst : u.world = r.2.idleCycle.world :=
      (hu.world hplainRead).trans (State.idleCycle_world_congr _ _ rfl)
    have hworldSecond : w.world = u.idleCycle.world :=
      (hw.world (hu.cfg.symm ▸ hplainRead)).trans (State.idleCycle_world_congr _ _ rfl)
    exact idleCycles_succ 2 _ u _ (idleCycles_two _ r.2 u hworldRead hworldFirst) hworldSecond

end Sys2Proof.Machine
end

section
/-! PROOFS. Runs of read cycles over plain memory: what such a run leaves, and the addressing modes as such runs (O12). -/

namespace Sys2Proof.Machine

/-! ### Runs of read cycles over plain memory -/

/-- `t` is what read cycles at the given addresses make of `s` where those are plain memory, whatever registers and latches
were written between them: memory stands, the bus shows the reads with their bytes, and the world has passed as many idle
cycles. -/
structure PlainReads (s : State) (addrs : List Word) (t : State) : Prop where
  mem : t.mem = s.mem
  bus : t.bus = s.bus ++ s.readsAt addrs
  world : t.world = (State.idleCycles addrs.length s).world

theorem State.idleCycles_cfg (n : Nat) (s : State) : (State.idleCycles n s).cfg = s.cfg := by
  induction n generalizing s with
  | zero => rfl
  | succ n ih => exact (ih s.idleCycle).trans (by simp [State.idleCycle])

theorem PlainReads.cfg {s t : State} {addrs : List Word} (h : PlainReads s addrs t) : t.cfg = s.cfg :=
  (congrArg World.cfg h.world).trans (State.idleCycles_cfg addrs.length s)

theorem PlainReads.peek {s t : State} {addrs : List Word} (h : PlainReads s addrs t) (a : Word) : t.peek a = s.peek a :=
  congrArg (Memory.read · a.toNat) h.mem

theorem PlainReads.refl (s : State) : PlainReads s [] s := ⟨rfl, (List.append_nil s.bus).symm, rfl⟩

theorem State.readsAt_append (s : State) (as bs : List Word) : s.readsAt (as ++ bs) = s.readsAt as ++ s.readsAt bs :=
  List.map_append

/-- One more read cycle. -/
theorem PlainReads.read {s t : State} {addrs : List Word} {a : Word} (h : PlainReads s addrs t) (ha : Plain s.cfg a) :
    (readCycle a t).1 = s.peek a ∧ PlainReads s (addrs ++ [a]) (readCycle a t).2 := by
  obtain ⟨hbyte, hworld⟩ := readCycle_plain a t (h.cfg.symm ▸ ha)
  rw [h.peek] at hbyte
  refine ⟨hbyte, (readCycle_mem a t).trans h.mem, ?_, ?_⟩
  · rw [readCycle_bus, hbyte, h.bus, State.readsAt_append, List.append_assoc]
    rfl
  · rw [List.length_append]
    exact idleCycles_succ addrs.length s t _ h.world hworld

/-- Writing registers and latches does not end the run. -/
theorem PlainReads.congr {s t u : State} {addrs : List Word} (h : PlainReads s addrs t) (hmem : u.mem = t.mem)
    (hbus : u.bus = t.bus) (hworld : u.world = t.world) : PlainReads s addrs u :=
  ⟨hmem.trans h.mem, hbus.trans h.bus, hworld.trans h.world⟩

theorem PlainReads.setAd {s t : State} {addrs : List Word} (h : PlainReads s addrs t) (w : Word) (f : Bool) :
    PlainReads s addrs (t.setAd w f) := h.congr rfl rfl rfl

theorem PlainReads.setPtr {s t : State} {addrs : List Word} (h : PlainReads s addrs t) (v : Byte) :
    PlainReads s addrs (t.setPtr v) := h.congr rfl rfl rfl

/-! ### Addressing modes (R203 to R211) -/

/-- The cycle at `EAu` is taken when the mode asks for it or the low-byte sum carries. -/
theorem extraCycle_eq (always : Bool) (base : Word) (index : Byte) :
    extraCycle always base index = if always || crosses base index then [uncorrected base index] else [] := by
  have hlow : (loByte base).toNat = base.toNat % 256 := BitVec.toNat_setWidth 8 base
  rw [crosses, hlow]
  rfl

theorem indexedAddr_plain {always : Bool} {base : Word} {index : Byte} {s t : State} {addrs : List Word}
    (h : PlainReads s addrs t) (hplain : ∀ a ∈ extraCycle always base index, Plain s.cfg a) :
    (indexedAddr always base index t).1 = base + zext16 index ∧
      PlainReads s (addrs ++ extraCycle always base index) (indexedAddr always base index t).2 := by
  rw [extraCycle_eq] at hplain ⊢
  unfold indexedAddr
  split at hplain
  next hextra =>
    rw [if_pos hextra, if_pos hextra]
    exact ⟨rfl, ((h.setAd _ _).read (hplain _ List.mem_cons_self)).2.setAd _ _⟩
  next hextra =>
    rw [if_neg hextra, if_neg hextra, List.append_nil]
    exact ⟨rfl, h.setAd _ _⟩

theorem zpIndexedAddr_plain {b index : Byte} {s : State} (hplain : Plain s.cfg (zext16 b)) :
    PlainReads s [zext16 b] (zpIndexedAddr b index s).2 :=
  ((PlainReads.refl s).read hplain).2.setAd _ _

theorem zpPointer_plain {p : Byte} {s t : State} {addrs : List Word} (h : PlainReads s addrs t)
    (hlo : Plain s.cfg (zext16 p)) (hhi : Plain s.cfg (zext16 (p + 1))) :
    (zpPointer p t).1 = s.zpWord p ∧ PlainReads s (addrs ++ [zext16 p, zext16 (p + 1)]) (zpPointer p t).2 := by
  obtain ⟨hbyteLo, hreadLo⟩ := (h.setPtr p).read hlo
  obtain ⟨hbyteHi, hreadHi⟩ := hreadLo.read hhi
  rw [List.append_assoc] at hreadHi
  exact ⟨by rw [zpPointer, State.zpWord, ← hbyteHi, ← hbyteLo], hreadHi⟩

/-- Every mode computes the address its rule gives by a run of read cycles over the addresses its rule lists. -/
theorem effAddr_plain {always : Bool} {m : Operand} {s : State} (hplain : ∀ a ∈ s.modeCycles always m, Plain s.cfg a) :
    (effAddr always m s).1 = s.ea m ∧ PlainReads s (s.modeCycles always m) (effAddr always m s).2 := by
  cases m with
  | zp b => exact ⟨rfl, (PlainReads.refl s).setAd _ _⟩
  | abs w => exact ⟨rfl, (PlainReads.refl s).setAd _ _⟩
  | zpx b => exact ⟨rfl, zpIndexedAddr_plain (hplain _ List.mem_cons_self)⟩
  | zpy b => exact ⟨rfl, zpIndexedAddr_plain (hplain _ List.mem_cons_self)⟩
  | absx w => exact indexedAddr_plain (PlainReads.refl s) hplain
  | absy w => exact indexedAddr_plain (PlainReads.refl s) hplain
  | indx b =>
    simp only [State.modeCycles, List.forall_mem_cons] at hplain
    obtain ⟨hbase, hlo, hhi, -⟩ := hplain
    have hdiscard : PlainReads s [zext16 b] (discardCycle (zext16 b) (s.setPtr b)) :=
      (((PlainReads.refl s).setPtr b).read hbase).2
    obtain ⟨hpointer, hreads⟩ := zpPointer_plain hdiscard hlo hhi
    exact ⟨hpointer, hreads.setAd _ _⟩
  | indy b =>
    simp only [State.modeCycles, List.cons_append, List.nil_append, List.forall_mem_cons] at hplain
    obtain ⟨hlo, hhi, hextra⟩ := hplain
    obtain ⟨hpointer, hreads⟩ := zpPointer_plain (PlainReads.refl s) hlo hhi
    simp only [effAddr, hpointer]
    exact indexedAddr_plain hreads hextra

/-- Settles O12: `effAddr_plain` gives the address and the cycles, `effAddr_reads` the registers. -/
theorem addressingModes : Obligations.AddressingModes := by
  intro always m s hplain
  obtain ⟨haddr, hreads⟩ := effAddr_plain hplain
  exact ⟨haddr, hreads.bus, (effAddr_reads always m s).regs, hreads.peek, hreads.world⟩

end Sys2Proof.Machine
end

section
/-! PROOFS. The fetch as a run of read cycles over plain memory (R193, R194, R213, R352), and so what a step runs (O25). -/

namespace Sys2Proof.Machine

/-! ### Program bytes -/

theorem PlainReads.setOpnd {s t : State} {addrs : List Word} (h : PlainReads s addrs t) (v : Byte) :
    PlainReads s addrs (t.setOpnd v) := h.congr rfl rfl rfl

theorem PlainReads.setSeq {s t : State} {addrs : List Word} (h : PlainReads s addrs t) (q : SeqKind) :
    PlainReads s addrs (t.setSeq q) := h.congr rfl rfl rfl

theorem PlainReads.setIr {s t : State} {addrs : List Word} (h : PlainReads s addrs t) (v : Byte) :
    PlainReads s addrs (t.setIr v) := h.congr rfl rfl rfl

theorem PlainReads.incPc {s t : State} {addrs : List Word} (h : PlainReads s addrs t) : PlainReads s addrs t.incPc :=
  h.congr rfl rfl rfl

/-- The first `n` program addresses from PC on. -/
def State.programAddrs (s : State) (n : Nat) : List Word := (List.range n).map fun k => s.cpu.pc + BitVec.ofNat 16 k

/-- `t` comes from `s` by fetching `n` program bytes, the first one into IR. -/
structure Fetched (s : State) (n : Nat) (t : State) : Prop where
  regs : t.regs = { s.regs with pc := s.cpu.pc + BitVec.ofNat 16 n, ir := s.peek s.cpu.pc }
  reads : PlainReads s (s.programAddrs n) t

theorem fetchOpcode_plain {s : State} (h : Plain s.cfg s.cpu.pc) :
    ∃ t, fetchOpcode s = (s.peek s.cpu.pc, t) ∧ Fetched s 1 t := by
  obtain ⟨hbyte, hreads⟩ := ((PlainReads.refl s).setSeq .instr).read h
  have haddrs : s.programAddrs 1 = [] ++ [s.cpu.pc] := congrArg (· :: []) (BitVec.add_zero s.cpu.pc)
  refine ⟨(fetchOpcode s).2, Prod.ext hbyte rfl, ?_, haddrs ▸ hreads.incPc.setIr _⟩
  simp only [fetchOpcode, fetchByte, State.setIr_regs, State.incPc_regs, readCycle_regs, State.setSeq_regs,
    State.setSeq_cpu, hbyte]
  rfl

theorem State.programAddrs_succ (s : State) (n : Nat) :
    s.programAddrs (n + 1) = s.programAddrs n ++ [s.cpu.pc + BitVec.ofNat 16 n] := by
  simp only [State.programAddrs, List.range_succ, List.map_append, List.map_cons, List.map_nil]

theorem Fetched.pc {s t : State} {n : Nat} (h : Fetched s n t) : t.cpu.pc = s.cpu.pc + BitVec.ofNat 16 n :=
  congrArg Regs.pc h.regs

/-- One operand byte more. -/
theorem Fetched.operand {s t : State} {n : Nat} (h : Fetched s n t) (hplain : Plain s.cfg (s.cpu.pc + BitVec.ofNat 16 n)) :
    ∃ u, fetchOperand t = (s.peek (s.cpu.pc + BitVec.ofNat 16 n), u) ∧ Fetched s (n + 1) u := by
  have hnext : s.cpu.pc + BitVec.ofNat 16 (n + 1) = t.cpu.pc + 1 := by
    rw [h.pc, BitVec.ofNat_add, ← BitVec.add_assoc]
    rfl
  rw [← h.pc] at hplain ⊢
  obtain ⟨hbyte, hreads⟩ := h.reads.read hplain
  refine ⟨(fetchOperand t).2, Prod.ext hbyte rfl, ?_, ?_⟩
  · simp only [fetchOperand, fetchByte, State.setOpnd_regs, State.incPc_regs, readCycle_regs, h.regs, hnext, h.pc]
  · rw [State.programAddrs_succ, ← h.pc]
    exact hreads.incPc.setOpnd _

/-! ### The instruction fetched -/

/-- What decoding three bytes says about the opcode's format and the bytes left over. -/
theorem decodeBytes_three {op b1 b2 : Byte} {i : Instr} {rest : List Byte}
    (h : decodeBytes [op, b1, b2] = .ok (i, rest)) :
    (operandCount op = 0 ∧ i = decodeOpcode op 0 0 ∧ rest = [b1, b2]) ∨
      (operandCount op = 1 ∧ i = decodeOpcode op b1 0 ∧ rest = [b2]) ∨
      (operandCount op = 2 ∧ i = decodeOpcode op b1 b2 ∧ rest = []) := by
  simp only [decodeBytes] at h
  split at h
  case h_1 hcount =>
    cases h
    exact .inl ⟨hcount, rfl, rfl⟩
  case h_2 hcount hbytes =>
    cases hbytes
    cases h
    exact .inr (.inl ⟨hcount, rfl, rfl⟩)
  case h_3 hcount hbytes =>
    cases hbytes
    cases h
    exact .inr (.inr ⟨hcount, rfl, rfl⟩)
  case h_4 => cases h

/-- JSR's third byte is only named to the decoder, without a cycle (R352). -/
theorem fetch_jsr {s t u : State} {b1 : Byte} (hop : fetchOpcode s = (0x20, t)) (hlow : fetchOperand t = (b1, u)) :
    fetch s = (decodeOpcode 0x20 b1 (u.peek u.cpu.pc), u) := by
  simp only [fetch, hop, hlow, if_true]

theorem fetch_one {s t : State} {op : Byte} (hop : fetchOpcode s = (op, t)) (hjsr : op ≠ 0x20)
    (hcount : operandCount op = 0) : fetch s = (decodeOpcode op 0 0, t) := by
  simp only [fetch, hop, if_neg hjsr, hcount]

theorem fetch_two {s t u : State} {op b1 : Byte} (hop : fetchOpcode s = (op, t)) (hlow : fetchOperand t = (b1, u))
    (hjsr : op ≠ 0x20) (hcount : operandCount op = 1) : fetch s = (decodeOpcode op b1 0, u) := by
  simp only [fetch, hop, hlow, if_neg hjsr, hcount]

theorem fetch_three {s t u w : State} {op b1 b2 : Byte} (hop : fetchOpcode s = (op, t)) (hlow : fetchOperand t = (b1, u))
    (hhigh : fetchOperand u = (b2, w)) (hjsr : op ≠ 0x20) (hcount : operandCount op = 2) :
    fetch s = (decodeOpcode op b1 b2, w) := by
  simp only [fetch, hop, hlow, hhigh, if_neg hjsr, hcount]

/-- How many bytes a step fetches first: all those decoded, but for JSR two. -/
def fetchedFirst (op : Byte) (rest : List Byte) : Nat := if op = 0x20 then 2 else 3 - rest.length

/-- Over plain memory the fetch finds the instruction that the bytes at PC decode to. -/
theorem fetch_plain {s : State} {i : Instr} {rest : List Byte}
    (hdecode : decodeBytes [s.peek s.cpu.pc, s.peek (s.cpu.pc + 1), s.peek (s.cpu.pc + 2)] = .ok (i, rest))
    (hplain : ∀ k, k < fetchedFirst (s.peek s.cpu.pc) rest → Plain s.cfg (s.cpu.pc + BitVec.ofNat 16 k)) :
    ∃ t, fetch s = (i, t) ∧ Fetched s (fetchedFirst (s.peek s.cpu.pc) rest) t := by
  have hopcode (hpos : 0 < fetchedFirst (s.peek s.cpu.pc) rest) := fetchOpcode_plain (by simpa using hplain 0 hpos)
  have hform := decodeBytes_three hdecode
  by_cases hjsr : s.peek s.cpu.pc = 0x20
  · have hn : fetchedFirst (s.peek s.cpu.pc) rest = 2 := if_pos hjsr
    have hcount : operandCount (s.peek s.cpu.pc) = 2 := congrArg operandCount hjsr
    obtain ⟨t, hop, ht⟩ := hopcode (by omega)
    obtain ⟨u, hlow, hu⟩ := ht.operand (hplain 1 (by omega))
    have hhigh : u.peek u.cpu.pc = s.peek (s.cpu.pc + 2) := by rw [hu.reads.peek, hu.pc]; rfl
    obtain ⟨h0, -⟩ | ⟨h1, -⟩ | ⟨-, rfl, -⟩ := hform
    · omega
    · omega
    · rw [hn, hjsr, ← hhigh]
      exact ⟨u, fetch_jsr (hjsr ▸ hop) hlow, hu⟩
  · have hn : fetchedFirst (s.peek s.cpu.pc) rest = 3 - rest.length := if_neg hjsr
    rw [hn] at hplain hopcode ⊢
    obtain ⟨hcount, rfl, rfl⟩ | ⟨hcount, rfl, rfl⟩ | ⟨hcount, rfl, rfl⟩ := hform
    · obtain ⟨t, hop, ht⟩ := hopcode (by simp)
      exact ⟨t, fetch_one hop hjsr hcount, ht⟩
    · obtain ⟨t, hop, ht⟩ := hopcode (by simp)
      obtain ⟨u, hlow, hu⟩ := ht.operand (hplain 1 (by simp))
      exact ⟨u, fetch_two hop hlow hjsr hcount, hu⟩
    · obtain ⟨t, hop, ht⟩ := hopcode (by simp)
      obtain ⟨u, hlow, hu⟩ := ht.operand (hplain 1 (by simp))
      obtain ⟨w, hhigh, hw⟩ := hu.operand (hplain 2 (by simp))
      exact ⟨w, fetch_three hop hlow hhigh hjsr hcount, hw⟩

/-- Settles O25: the step runs what the fetch finds, and `Fetched` says what state the fetch leaves. -/
theorem stepRunsDecoded : Obligations.StepRunsDecoded := by
  intro s i rest hinstr _ hdecode n hplain
  obtain ⟨t, hfetch, ht⟩ := fetch_plain (s := clearRecords s) hdecode hplain
  refine ⟨t, by simp only [step, hinstr, hfetch], ht.regs, ht.reads.mem, ht.reads.bus, ?_⟩
  have hlength : ((clearRecords s).programAddrs n).length = n := by simp [State.programAddrs]
  exact hlength ▸ ht.reads.world

end Sys2Proof.Machine
end

section
/-! PROOFS. The stack instructions (O5, O6): PHA and PHP are one push after the implied cycle, PLA and PLP one pull after
it and a change of the registers by the byte pulled. -/

namespace Sys2Proof.Machine

/-! ### The implied cycle (R200) -/

theorem impliedCycle_reads (s : State) : ReadsOnly s (impliedCycle s) := (ReadsOnly.refl s).discard s.cpu.pc

theorem impliedCycle_s (s : State) : (impliedCycle s).cpu.s = s.cpu.s := congrArg Regs.s (impliedCycle_reads s).regs

theorem impliedCycle_world {s : State} (h : Plain s.cfg s.cpu.pc) : (impliedCycle s).world = s.idleCycle.world :=
  (readCycle_plain _ _ h).2

/-! ### Pushes (R262, R263) -/

/-- What a one-byte instruction that pushes `v` makes of the state before it. -/
structure PushCompleted (v : Byte) (s t : State) : Prop where
  regs : t.regs = { s.regs with s := s.cpu.s - 1 }
  peek : ∀ b, t.peek b = stored s.cfg (stackAt s.cfg s.cpu.s) v s.peek b
  world : Plain s.cfg s.cpu.pc → Plain s.cfg (stackAt s.cfg s.cpu.s) → t.world = (State.idleCycles 2 s).world
  boundary : AtBoundary t

/-- An accepted push after the implied cycle completes: that cycle keeps the registers, the parameters and memory, so the
byte goes where the stack pointer stood at first. -/
theorem push_after_impliedCycle {v : Byte} {s : State} (hwf : Memory.wf s.mem = true)
    (haccepts : Accepts s.cfg (stackAt s.cfg s.cpu.s) v = true) :
    ∃ t, andThen (push v (impliedCycle s)) finish = .next t ∧ PushCompleted v s t := by
  have hreads := impliedCycle_reads s
  have hsp := impliedCycle_s s
  have hbytes : (impliedCycle s).peek = s.peek := funext hreads.peek
  obtain ⟨t, hnext, hregs, -, -, -, hpeek, hworld⟩ :=
    push_all v (impliedCycle s) (hreads.mem ▸ hwf) (by rwa [hreads.cfg, hsp])
  rw [hreads.regs, hsp] at hregs
  rw [hreads.cfg, hsp, hbytes] at hpeek
  rw [hreads.cfg, hsp] at hworld
  refine ⟨t.boundary, by rw [hnext]; rfl, hregs, hpeek, fun hpc hstack => ?_, t.boundary_atBoundary⟩
  exact idleCycles_two s (impliedCycle s) t (impliedCycle_world hpc) (hworld hstack)

theorem exec_pha (s : State) : exec .pha s = andThen (push s.cpu.a (impliedCycle s)) finish := rfl

theorem exec_php (s : State) : exec .php s = andThen (push (s.cpu.p.toByte true) (impliedCycle s)) finish := rfl

/-- Settles O5: PHA and PHP are the same push of two different bytes. -/
theorem pushes : Obligations.Pushes := by
  intro s hwf
  refine ⟨fun haccepts => ?_, fun haccepts => ?_⟩
  · obtain ⟨t, hnext, hregs, hpeek, hworld, hend⟩ := push_after_impliedCycle hwf haccepts
    exact ⟨t, (exec_pha s).trans hnext, hregs, hpeek, hworld, hend⟩
  · obtain ⟨t, hnext, hregs, hpeek, hworld, hend⟩ := push_after_impliedCycle hwf haccepts
    exact ⟨t, (exec_php s).trans hnext, hregs, hpeek, hworld, hend⟩

/-! ### Pulls (R264, R265) -/

theorem PlainReads.setS {s t : State} {addrs : List Word} (h : PlainReads s addrs t) (v : Byte) :
    PlainReads s addrs (t.setS v) := h.congr rfl rfl rfl

theorem pullStart_s (s : State) : (pullStart s).cpu.s = s.cpu.s + 1 := congrArg Regs.s (pullStart_regs s)

theorem pullByte_regs (s : State) : (pullByte s).2.regs = { s.regs with s := s.cpu.s + 1 } :=
  (readCycle_regs _ _).trans (pullStart_regs s)

theorem pullByte_mem (s : State) : (pullByte s).2.mem = s.mem := (readCycle_mem _ _).trans (pullStart_mem s)

/-- The byte pulled is memory's at the address above the stack pointer, whatever the discarded read met. -/
theorem pullByte_plain {s : State} (h : Plain s.cfg (stackAt s.cfg (s.cpu.s + 1))) :
    (pullByte s).1 = s.peek (stackAt s.cfg (s.cpu.s + 1)) := by
  obtain ⟨-, -, -, hplain⟩ := pullRead_all (pullStart s)
  rw [pullStart_cfg, pullStart_s] at hplain
  exact (hplain h).1.trans (congrArg (Memory.read · _) (pullStart_mem s))

/-- Over plain memory the three cycles of PLA and PLP are reads at PC and at the two stack addresses. -/
theorem pullByte_impliedCycle_reads {s : State} (hpc : Plain s.cfg s.cpu.pc) (hold : Plain s.cfg (stackAt s.cfg s.cpu.s))
    (hnew : Plain s.cfg (stackAt s.cfg (s.cpu.s + 1))) :
    PlainReads s [s.cpu.pc, stackAt s.cfg s.cpu.s, stackAt s.cfg (s.cpu.s + 1)] (pullByte (impliedCycle s)).2 := by
  have hreads := impliedCycle_reads s
  have hsp := impliedCycle_s s
  have hfirst : stackAddr (impliedCycle s) = stackAt s.cfg s.cpu.s := by rw [stackAddr, hreads.cfg, hsp, stackAt]
  have hsecond : stackAddr (pullStart (impliedCycle s)) = stackAt s.cfg (s.cpu.s + 1) := by
    rw [stackAddr, pullStart_cfg, pullStart_s, hreads.cfg, hsp, stackAt]
  have himplied : PlainReads s [s.cpu.pc] (impliedCycle s) := ((PlainReads.refl s).read hpc).2
  have hstart : PlainReads s [s.cpu.pc, stackAt s.cfg s.cpu.s] (pullStart (impliedCycle s)) :=
    hfirst ▸ (himplied.read (hfirst ▸ hold)).2.setS _
  exact hsecond ▸ (hstart.read (hsecond ▸ hnew)).2

@[simp] theorem State.setRegs_world (s : State) (r : Regs) : (s.setRegs r).world = s.world := rfl
@[simp] theorem State.setRegs_peek (s : State) (r : Regs) (b : Word) : (s.setRegs r).peek b = s.peek b := rfl

theorem loadA_eq_setRegs (v : Byte) (s : State) :
    loadA v s = s.setRegs { s.regs with a := v, p := s.regs.p.setNZ v } := rfl

theorem setP_eq_setRegs (p : Flags) (s : State) : s.setP p = s.setRegs { s.regs with p := p } := rfl

/-- What a one-byte instruction that pulls `v` and changes the registers by `f` makes of the state before it. -/
structure PullCompleted (f : Regs → Regs) (v : Byte) (s t : State) : Prop where
  regs : t.regs = f { s.regs with s := s.cpu.s + 1 }
  byte : Plain s.cfg (stackAt s.cfg (s.cpu.s + 1)) → v = s.peek (stackAt s.cfg (s.cpu.s + 1))
  world : Plain s.cfg s.cpu.pc → Plain s.cfg (stackAt s.cfg s.cpu.s) → Plain s.cfg (stackAt s.cfg (s.cpu.s + 1)) →
    t.world = (State.idleCycles 3 s).world
  peek : ∀ b, t.peek b = s.peek b
  boundary : AtBoundary t

/-- A pull after the implied cycle always completes, with the change of the registers that follows it. -/
theorem pull_after_impliedCycle (f : Byte → Regs → Regs) (s : State) :
    let r := pullByte (impliedCycle s)
    ∃ t, finish (r.2.setRegs (f r.1 r.2.regs)) = .next t ∧ PullCompleted (f r.1) r.1 s t := by
  intro r
  have hreads := impliedCycle_reads s
  have hsp := impliedCycle_s s
  have hregs : r.2.regs = { s.regs with s := s.cpu.s + 1 } := by rw [pullByte_regs, hreads.regs, hsp]
  have hmem : r.2.mem = s.mem := (pullByte_mem _).trans hreads.mem
  refine ⟨(r.2.setRegs (f r.1 r.2.regs)).boundary, rfl, ?_, fun hnew => ?_, fun hpc hold hnew => ?_, fun b => ?_,
    State.boundary_atBoundary _⟩
  · rw [State.boundary_regs, State.setRegs_regs, hregs]
  · have hbyte : r.1 = _ := pullByte_plain (s := impliedCycle s) (by rwa [hreads.cfg, hsp])
    rw [hbyte, hreads.peek, hreads.cfg, hsp]
  · rw [State.boundary_world, State.setRegs_world]
    exact (pullByte_impliedCycle_reads hpc hold hnew).world
  · rw [State.boundary_peek, State.setRegs_peek, State.peek, hmem, State.peek]

theorem exec_pla (s : State) :
    let r := pullByte (impliedCycle s)
    exec .pla s = finish (r.2.setRegs { r.2.regs with a := r.1, p := r.2.regs.p.setNZ r.1 }) := by
  intro r
  rw [← loadA_eq_setRegs]
  rfl

theorem exec_plp (s : State) :
    let r := pullByte (impliedCycle s)
    exec .plp s = finish (r.2.setRegs { r.2.regs with p := Flags.ofByte r.1 }) := by
  intro r
  rw [← setP_eq_setRegs]
  rfl

/-- Settles O6: PLA and PLP are the same pull with two different changes of the registers. -/
theorem pulls : Obligations.Pulls := by
  intro s
  refine ⟨?_, ?_⟩
  · obtain ⟨t, hnext, hregs, hbyte, hworld, hpeek, hend⟩ :=
      pull_after_impliedCycle (fun v regs => { regs with a := v, p := regs.p.setNZ v }) s
    exact ⟨t, _, (exec_pla s).trans hnext, hregs, rfl, hbyte, hworld, hpeek, hend⟩
  · obtain ⟨t, hnext, hregs, hbyte, hworld, hpeek, hend⟩ :=
      pull_after_impliedCycle (fun v regs => { regs with p := Flags.ofByte v }) s
    exact ⟨t, _, (exec_plp s).trans hnext, hregs, rfl, hbyte, hworld, hpeek, hend⟩

end Sys2Proof.Machine
end

section
/-! PROOFS. Binary and decimal arithmetic (O13, O14): the top bits of a byte as bounds on its number, the nine-bit sum and the
subtraction read as numbers, then ADC and SBC in both modes. -/

namespace Sys2Proof.Machine

/-! ### Bytes as numbers -/

theorem bit_eq_decide (v : Byte) (i : Nat) : bit v i = decide (v.toNat / 2 ^ i % 2 = 1) :=
  Nat.testBit_eq_decide_div_mod_eq

/-- Bit 7 says that the byte lies in the upper half of its range. -/
theorem bit_seven (v : Byte) : bit v 7 = decide (128 ≤ v.toNat) := by
  rw [bit_eq_decide, decide_eq_decide]
  omega

/-- A byte read as a signed number (R9). -/
theorem toInt_eq_ite (v : Byte) : v.toInt = if 128 ≤ v.toNat then (v.toNat : Int) - 256 else v.toNat := by
  rw [BitVec.toInt_eq_toNat_cond]
  split <;> split <;> omega

/-- The one's complement R322 takes of its operand. -/
theorem toNat_xor_ff (v : Byte) : (v ^^^ 0xFF).toNat = 255 - v.toNat := by
  rw [show (0xFF : Byte) = BitVec.allOnes 8 from rfl, BitVec.xor_allOnes, BitVec.toNat_not]

theorem toInt_xor_ff (v : Byte) : (v ^^^ 0xFF).toInt = -1 - v.toInt := by
  rw [toInt_eq_ite, toInt_eq_ite, toNat_xor_ff]
  split <;> split <;> omega

/-- The formula of R321: the operands agree in sign and the sum does not. -/
theorem bit_seven_overflow (a b s : Byte) :
    bit (~~~(a ^^^ b) &&& (a ^^^ s)) 7 = (bit a 7 == bit b 7 && bit a 7 != bit s 7) := by
  simp only [bit, BitVec.getLsbD_and, BitVec.getLsbD_not, BitVec.getLsbD_xor]
  cases a.getLsbD 7 <;> cases b.getLsbD 7 <;> rfl

/-! ### Binary arithmetic (R321, R322) -/

theorem add8_sum_toNat (a b : Byte) (cin : Bool) :
    (add8 a b cin).sum.toNat = (a.toNat + b.toNat + cin.toNat) % 256 := BitVec.toNat_ofNat _ _

theorem add8_carry (a b : Byte) (cin : Bool) :
    (add8 a b cin).carry = decide (256 ≤ a.toNat + b.toNat + cin.toNat) := rfl

/-- The overflow flag is the signed sum out of range, whatever the carry in. -/
theorem add8_overflow_iff (a b : Byte) (cin : Bool) :
    (add8 a b cin).overflow = true ↔
      (a.toInt + b.toInt + (cin.toNat : Int) < -128 ∨ 127 < a.toInt + b.toInt + (cin.toNat : Int)) := by
  have hcin := cin.toNat_le
  have hformula : (add8 a b cin).overflow = _ := bit_seven_overflow a b (add8 a b cin).sum
  rw [hformula, Bool.and_eq_true, beq_iff_eq, bne_iff_ne, bit_seven, bit_seven, bit_seven, add8_sum_toNat, toInt_eq_ite,
    toInt_eq_ite, ne_eq, decide_eq_decide, decide_eq_decide]
  split <;> split <;> omega

theorem sub8_sum (a b : Byte) (cin : Bool) :
    (sub8 a b cin).sum = BitVec.ofInt 8 ((a.toNat : Int) - (b.toNat : Int) - (1 - (cin.toNat : Int))) := by
  apply BitVec.eq_of_toNat_eq
  have hb := b.isLt
  rw [sub8, add8_sum_toNat, toNat_xor_ff, BitVec.toNat_ofInt]
  omega

/-- The carry of a subtraction is the absence of a borrow. -/
theorem sub8_carry (a b : Byte) (cin : Bool) :
    (sub8 a b cin).carry = decide (b.toNat + (1 - cin.toNat) ≤ a.toNat) := by
  have hb := b.isLt
  have hcin := cin.toNat_le
  rw [sub8, add8_carry, toNat_xor_ff, decide_eq_decide]
  omega

theorem sub8_overflow_iff (a b : Byte) (cin : Bool) :
    (sub8 a b cin).overflow = true ↔
      (a.toInt - b.toInt - (1 - (cin.toNat : Int)) < -128 ∨ 127 < a.toInt - b.toInt - (1 - (cin.toNat : Int))) := by
  have hsum : a.toInt + (-1 - b.toInt) + (cin.toNat : Int) = a.toInt - b.toInt - (1 - (cin.toNat : Int)) := by omega
  rw [sub8, add8_overflow_iff, toInt_xor_ff, hsum]

/-- Settles O13: the subtraction is the addition of the one's complement, whose signed value is `-1 - b`. -/
theorem binaryArithmetic : Obligations.BinaryArithmetic := fun a b cin =>
  ⟨add8_sum_toNat a b cin, by rw [add8_carry, decide_eq_true_eq], rfl, add8_overflow_iff a b cin, rfl, sub8_sum a b cin,
    by rw [sub8_carry, decide_eq_true_eq], sub8_overflow_iff a b cin⟩

/-! ### ADC and SBC (R290, R291) -/

/-- `setNZ` with the zero test as the statements write it. -/
theorem Flags.setNZ_eq (p : Flags) (v : Byte) : p.setNZ v = { p with n := bit v 7, z := decide (v = 0) } := rfl

theorem adcResult_of_binary {p : Flags} (h : p.d = false) (a m : Byte) : adcResult a m p = adcBinary a m p := by
  rw [adcResult, h, if_neg Bool.false_ne_true]

theorem adcResult_of_decimal {p : Flags} (h : p.d = true) (a m : Byte) : adcResult a m p = adcDecimal a m p := by
  rw [adcResult, if_pos h]

theorem sbcResult_of_binary {p : Flags} (h : p.d = false) (a m : Byte) : sbcResult a m p = sbcBinary a m p := by
  rw [sbcResult, h, if_neg Bool.false_ne_true]

theorem sbcResult_of_decimal {p : Flags} (h : p.d = true) (a m : Byte) : sbcResult a m p = sbcDecimal a m p := by
  rw [sbcResult, if_pos h]

/-- SBC's flags are those of the binary subtraction in both modes (R324). -/
theorem sbcResult_p (a m : Byte) (p : Flags) : (sbcResult a m p).p = p.ofAlu (sub8 a m p.c) := by
  cases h : p.d
  · rw [sbcResult_of_binary h]; rfl
  · rw [sbcResult_of_decimal h]; rfl

/-- ADC's Z is that of the binary sum in both modes (R323). -/
theorem adcResult_z (a m : Byte) (p : Flags) :
    (adcResult a m p).p.z = decide ((a.toNat + m.toNat + p.c.toNat) % 256 = 0) := by
  cases h : p.d
  · rw [adcResult_of_binary h, ← add8_sum_toNat]
    exact decide_eq_decide.mpr BitVec.toNat_eq
  · rw [adcResult_of_decimal h]
    rfl

theorem adcResult_d_i (a m : Byte) (p : Flags) : (adcResult a m p).p.d = p.d ∧ (adcResult a m p).p.i = p.i := by
  cases h : p.d
  · rw [adcResult_of_binary h]; exact ⟨h, rfl⟩
  · rw [adcResult_of_decimal h]; exact ⟨h, rfl⟩

/-! ### Decimal digits (R323, R324) -/

/-- The sum of R323 after the correction of its high digit, before it is cut to eight bits. -/
def adcWide (a m c : Nat) : Nat := if 0xA0 ≤ adcMid a m c then adcMid a m c + 0x60 else adcMid a m c

theorem adcDecimal_a_toNat (a m : Byte) (p : Flags) :
    (adcDecimal a m p).a.toNat = adcWide a.toNat m.toNat p.c.toNat % 256 := BitVec.toNat_ofNat _ _

theorem adcDecimal_c (a m : Byte) (p : Flags) :
    (adcDecimal a m p).p.c = decide (256 ≤ adcWide a.toNat m.toNat p.c.toNat) := rfl

theorem adcDecimal_n (a m : Byte) (p : Flags) :
    (adcDecimal a m p).p.n = decide (adcMid a.toNat m.toNat p.c.toNat / 128 % 2 = 1) :=
  Nat.testBit_eq_decide_div_mod_eq

/-- N and V are two readings of one intermediate value. -/
theorem adcDecimal_v (a m : Byte) (p : Flags) :
    (adcDecimal a m p).p.v = (bit a 7 == bit m 7 && bit a 7 != (adcDecimal a m p).p.n) := by
  have hn : bit (BitVec.ofNat 8 (adcMid a.toNat m.toNat p.c.toNat)) 7 = (adcDecimal a m p).p.n := by
    rw [bit, BitVec.getLsbD_ofNat, decide_eq_true (by decide), Bool.true_and]; rfl
  exact (bit_seven_overflow a m _).trans (by rw [hn])

theorem sbcDecimal_a_toNat (a m : Byte) (p : Flags) :
    ((sbcDecimal a m p).a.toNat : Int) = sbcWide a.toNat m.toNat p.c.toNat % 256 := by
  have h : (sbcDecimal a m p).a.toNat = _ := BitVec.toNat_ofInt _
  rw [h]
  omega

/-- On decimal digits the low-digit correction of R323 sends a decimal carry to the high digit. -/
theorem adcLow_of_digits {a m c : Nat} (ha : a % 16 < 10) (hm : m % 16 < 10) (hc : c ≤ 1) :
    let low := a % 16 + m % 16 + c
    adcLow a m c = low / 10 * 16 + low % 10 := by
  simp only [adcLow]
  split <;> omega

/-- With the high-digit correction R323 writes the decimal digits of the sum one by one: tens and hundreds come out of the
high digits and the carry of the low ones. -/
theorem adcWide_of_isBcd {a m : Byte} (ha : isBcd a) (hm : isBcd m) {c : Nat} (hc : c ≤ 1) :
    let sum := bcdValue a + bcdValue m + c
    adcWide a.toNat m.toNat c = sum / 100 * 256 + sum / 10 % 10 * 16 + sum % 10 := by
  intro sum
  obtain ⟨hahi, halo⟩ := ha
  obtain ⟨hmhi, hmlo⟩ := hm
  have hsum : sum = 10 * (a.toNat / 16 + m.toNat / 16) + (a.toNat % 16 + m.toNat % 16 + c) := by
    simp only [sum, bcdValue]
    omega
  have hones : sum % 10 = (a.toNat % 16 + m.toNat % 16 + c) % 10 := by omega
  have htens : sum / 10 = a.toNat / 16 + m.toNat / 16 + (a.toNat % 16 + m.toNat % 16 + c) / 10 := by omega
  have hhundreds : sum / 100 = sum / 10 / 10 := by omega
  simp only [adcWide, adcMid, adcLow_of_digits halo hmlo hc]
  rw [hhundreds, hones, htens]
  split <;> omega

/-- The low-digit correction of R324 takes a decimal borrow from the high digit: the quotient is `-1` below 0. -/
theorem sbcLow_of_digits {a m c : Int} (ha : a % 16 < 10) (hm : m % 16 < 10) (hc : 0 ≤ c ∧ c ≤ 1) :
    let low := a % 16 - m % 16 + c - 1
    sbcLow a m c = low / 10 * 16 + low % 10 := by
  obtain ⟨hc0, hc1⟩ := hc
  simp only [sbcLow]
  split <;> omega

/-- R324 on decimal digits, in the same form as R323. -/
theorem sbcWide_of_isBcd {a m : Byte} (ha : isBcd a) (hm : isBcd m) {c : Nat} (hc : c ≤ 1) :
    let difference : Int := bcdValue a - bcdValue m - (1 - c)
    sbcWide a.toNat m.toNat c = difference / 100 * 256 + difference / 10 % 10 * 16 + difference % 10 := by
  intro difference
  obtain ⟨hahi, halo⟩ := ha
  obtain ⟨hmhi, hmlo⟩ := hm
  have hdifference : difference = 10 * (a.toNat / 16 - m.toNat / 16) + (a.toNat % 16 - m.toNat % 16 + c - 1) := by
    simp only [difference, bcdValue]
    omega
  have hones : difference % 10 = (a.toNat % 16 - m.toNat % 16 + c - 1) % 10 := by omega
  have htens : difference / 10 = a.toNat / 16 - m.toNat / 16 + (a.toNat % 16 - m.toNat % 16 + c - 1) / 10 := by omega
  have hhundreds : difference / 100 = difference / 10 / 10 := by omega
  simp only [sbcWide, sbcLow_of_digits (a := a.toNat) (m := m.toNat) (c := c) (by omega) (by omega) (by omega)]
  rw [hhundreds, hones, htens]
  split <;> omega

theorem bcdValue_lt {v : Byte} (h : isBcd v) : bcdValue v < 100 := by
  obtain ⟨hhi, hlo⟩ := h
  unfold bcdValue
  omega

/-- A byte cut from a number whose two low digits are the last decimal ones of `n` is valid BCD and stands for `n` modulo
100; `n` may be negative, as a difference with a borrow is. -/
theorem isBcd_of_digits {v : Byte} {q n : Int} (h : (v.toNat : Int) = (q * 256 + n / 10 % 10 * 16 + n % 10) % 256) :
    isBcd v ∧ (bcdValue v : Int) = n % 100 := by
  have hcut : (v.toNat : Int) = n / 10 % 10 * 16 + n % 10 := by omega
  unfold isBcd bcdValue
  omega

theorem adcDecimal_of_isBcd {a m : Byte} (ha : isBcd a) (hm : isBcd m) (p : Flags) :
    isBcd (adcDecimal a m p).a ∧
    bcdValue (adcDecimal a m p).a = (bcdValue a + bcdValue m + p.c.toNat) % 100 ∧
    ((adcDecimal a m p).p.c = true ↔ 100 ≤ bcdValue a + bcdValue m + p.c.toNat) := by
  have hbyte := adcDecimal_a_toNat a m p
  rw [adcDecimal_c, decide_eq_true_eq]
  rw [adcWide_of_isBcd ha hm p.c.toNat_le] at hbyte ⊢
  generalize bcdValue a + bcdValue m + p.c.toNat = sum at hbyte ⊢
  have hbyteInt : ((adcDecimal a m p).a.toNat : Int) =
      ((sum : Int) / 100 * 256 + (sum : Int) / 10 % 10 * 16 + (sum : Int) % 10) % 256 := congrArg Int.ofNat hbyte
  obtain ⟨hvalid, hvalue⟩ := isBcd_of_digits hbyteInt
  exact ⟨hvalid, by omega, by omega⟩

theorem sbcDecimal_of_isBcd {a m : Byte} (ha : isBcd a) (hm : isBcd m) (p : Flags) :
    isBcd (sbcDecimal a m p).a ∧
    bcdValue (sbcDecimal a m p).a = (bcdValue a + 100 - bcdValue m - (1 - p.c.toNat)) % 100 := by
  have hbyte := sbcDecimal_a_toNat a m p
  have hm_lt := bcdValue_lt hm
  have hc := p.c.toNat_le
  rw [sbcWide_of_isBcd ha hm hc] at hbyte
  obtain ⟨hvalid, hvalue⟩ := isBcd_of_digits hbyte
  exact ⟨hvalid, by omega⟩

/-- Valid BCD bytes are ordered as the numbers they stand for, so the binary borrow is the decimal one. -/
theorem sub8_carry_of_isBcd {a m : Byte} (ha : isBcd a) (hm : isBcd m) (cin : Bool) :
    (sub8 a m cin).carry = true ↔ bcdValue m + (1 - cin.toNat) ≤ bcdValue a := by
  obtain ⟨-, halo⟩ := ha
  obtain ⟨-, hmlo⟩ := hm
  rw [sub8_carry, decide_eq_true_eq, bcdValue, bcdValue]
  omega

/-- Settles O14: each mode by its own formula; on valid BCD the formulas are arithmetic modulo 100. -/
theorem adcSbcModes : Obligations.AdcSbcModes := by
  intro a m p
  refine ⟨fun hbinary => ?_, fun hdecimal ha hm => ?_, fun hdecimal => ?_, adcResult_z a m p, sbcResult_p a m p,
    adcResult_d_i a m p⟩
  · rw [adcResult_of_binary hbinary, sbcResult_of_binary hbinary]
    exact ⟨rfl, rfl, rfl⟩
  · obtain ⟨hadc, hsum, hcarry⟩ := adcDecimal_of_isBcd ha hm p
    obtain ⟨hsbc, hdifference⟩ := sbcDecimal_of_isBcd ha hm p
    rw [sbcResult_p, adcResult_of_decimal hdecimal, sbcResult_of_decimal hdecimal]
    exact ⟨hadc, hsum, hcarry, hsbc, hdifference, sub8_carry_of_isBcd ha hm p.c⟩
  · rw [adcResult_of_decimal hdecimal, sbcResult_of_decimal hdecimal]
    exact ⟨adcDecimal_n a m p, (adcDecimal_v a m p).trans (by rw [adcDecimal_n]; rfl), rfl, adcDecimal_a_toNat a m p,
      sbcDecimal_a_toNat a m p⟩

end Sys2Proof.Machine
end

section
/-! PROOFS. Compares, BIT, and the read-modify-write operations (O15, O16): the flags of each as bounds on the operand's
number, and each result bit of the shifts and rotates. -/

namespace Sys2Proof.Machine

/-! ### Compares and BIT (R295 to R298) -/

/-- A compare subtracts with no borrow coming in. -/
theorem sub8_sum_toNat_true (r m : Byte) : (sub8 r m true).sum.toNat = (r.toNat + 256 - m.toNat) % 256 := by
  have hm := m.isLt
  rw [sub8, add8_sum_toNat, toNat_xor_ff, Bool.toNat_true]
  omega

theorem sub8_sum_true_eq_zero_iff (r m : Byte) : (sub8 r m true).sum = 0 ↔ r = m := by
  have hr := r.isLt
  have hm := m.isLt
  rw [BitVec.toNat_eq, BitVec.toNat_eq, sub8_sum_toNat_true, show (0 : Byte).toNat = 0 from rfl]
  omega

theorem Flags.compare_eq (p : Flags) (r m : Byte) :
    p.compare r m = { p with
      c := decide (m.toNat ≤ r.toNat), z := decide (r = m), n := decide (128 ≤ (r.toNat + 256 - m.toNat) % 256) } := by
  have hc : (sub8 r m true).carry = decide (m.toNat ≤ r.toNat) := sub8_carry r m true
  have hz : decide ((sub8 r m true).sum = 0) = decide (r = m) := decide_eq_decide.mpr (sub8_sum_true_eq_zero_iff r m)
  have hn : bit (sub8 r m true).sum 7 = _ := bit_seven _
  rw [sub8_sum_toNat_true] at hn
  rw [Flags.compare, Flags.setNZ_eq, hc, hz, hn]

/-- The AND of two bytes is zero when no bit is set in both. -/
theorem and_eq_zero_iff (x y : Byte) :
    x &&& y = 0 ↔ ∀ k : Fin 8, ¬ (x.getLsbD k = true ∧ y.getLsbD k = true) := by
  rw [BitVec.eq_of_getLsbD_eq_iff, Fin.forall_iff]
  simp only [BitVec.getLsbD_and, BitVec.ofNat_eq_ofNat, BitVec.getLsbD_zero, ← Bool.and_eq_true, Bool.not_eq_true]

theorem Flags.bitTest_eq (p : Flags) (a m : Byte) :
    p.bitTest a m = { p with
      z := decide (∀ k : Fin 8, ¬ (a.getLsbD k = true ∧ m.getLsbD k = true))
      n := decide (128 ≤ m.toNat), v := decide (64 ≤ m.toNat % 128) } := by
  have hz : (a &&& m == 0) = decide (∀ k : Fin 8, ¬ (a.getLsbD k = true ∧ m.getLsbD k = true)) :=
    decide_eq_decide.mpr (and_eq_zero_iff a m)
  have hv : bit m 6 = decide (64 ≤ m.toNat % 128) := by
    rw [bit_eq_decide, decide_eq_decide]
    omega
  rw [Flags.bitTest, hz, bit_seven, hv]

/-- Settles O15: the two equations of the flags, whose other fields are the old ones. -/
theorem compareAndBit : Obligations.CompareAndBit := fun r m p => ⟨p.compare_eq r m, p.bitTest_eq r m⟩

/-! ### Shifts, rotates, INC and DEC (R299, R300, R305 to R308) -/

theorem bit_zero (v : Byte) : bit v 0 = decide (v.toNat % 2 = 1) := by
  rw [bit_eq_decide, Nat.pow_zero, Nat.div_one]

/-- N and Z as bounds on the byte's number. -/
theorem Flags.setNZ_eq_toNat (p : Flags) (v : Byte) :
    p.setNZ v = { p with n := decide (128 ≤ v.toNat), z := decide (v.toNat = 0) } := by
  rw [Flags.setNZ_eq, bit_seven, decide_eq_decide.mpr (BitVec.toNat_eq (x := v) (y := 0))]
  rfl

/-- The carry an operation leaves: the bit a shift or rotate loses, the old carry of a count. -/
def RmwKind.carry (k : RmwKind) (m : Byte) (p : Flags) : Bool :=
  match k with
  | .asl | .rol => bit m 7
  | .lsr | .ror => bit m 0
  | .inc | .dec => p.c

theorem RmwKind.result_p (k : RmwKind) (m : Byte) (p : Flags) :
    (k.result m p).p = { p.setNZ (k.result m p).r with c := k.carry m p } := by
  cases k <;> rfl

theorem getLsbD_shl_one (m : Byte) (j : Fin 8) :
    (m <<< 1).getLsbD j = (decide (j.val ≠ 0) && m.getLsbD (j.val - 1)) := by
  rw [BitVec.getLsbD_shiftLeft, decide_eq_true j.isLt, Bool.true_and, ← decide_not]
  congr 1
  exact decide_eq_decide.mpr (by omega)

/-- A right shift feeds 0 into bit 7: there is no bit 8 to come from. -/
theorem getLsbD_shr_one (m : Byte) (j : Fin 8) :
    (m >>> 1).getLsbD j = (decide (j.val ≠ 7) && m.getLsbD (j.val + 1)) := by
  rw [BitVec.getLsbD_ushiftRight, Nat.add_comm]
  by_cases hj : j.val = 7
  · rw [hj, decide_eq_false (by decide), Bool.false_and]
    exact BitVec.getLsbD_of_ge m 8 (by decide)
  · rw [decide_eq_true hj, Bool.true_and]

/-- ROL puts the carry in at bit 0 (R307). -/
theorem getLsbD_rol (m : Byte) (c : Bool) (j : Fin 8) :
    ((m <<< 1) ||| (BitVec.ofBool c).setWidth 8).getLsbD j = if j.val = 0 then c else m.getLsbD (j.val - 1) := by
  rw [BitVec.getLsbD_or, getLsbD_shl_one, BitVec.getLsbD_setWidth, BitVec.getLsbD_ofBool, decide_eq_true j.isLt, decide_not]
  by_cases hj : j.val = 0
  · rw [if_pos hj, decide_eq_true hj, Bool.not_true, Bool.false_and, Bool.false_or, Bool.true_and, Bool.true_and]
  · rw [if_neg hj, decide_eq_false hj, Bool.not_false, Bool.true_and, Bool.false_and, Bool.and_false, Bool.or_false]

/-- ROR puts the carry in at bit 7 (R308). -/
theorem getLsbD_ror (m : Byte) (c : Bool) (j : Fin 8) :
    ((m >>> 1) ||| ((BitVec.ofBool c).setWidth 8 <<< 7)).getLsbD j = if j.val = 7 then c else m.getLsbD (j.val + 1) := by
  rw [BitVec.getLsbD_or, getLsbD_shr_one, BitVec.getLsbD_shiftLeft, BitVec.getLsbD_setWidth, BitVec.getLsbD_ofBool,
    decide_eq_true j.isLt, decide_not]
  by_cases hj : j.val = 7
  · rw [if_pos hj, hj]
    rfl
  · have hlow : j.val < 7 := by omega
    rw [if_neg hj, decide_eq_false hj, decide_eq_true hlow, Bool.not_false, Bool.not_true, Bool.true_and, Bool.and_false,
      Bool.false_and, Bool.or_false]

theorem add_one_eq_ofNat (m : Byte) : m + 1 = BitVec.ofNat 8 (m.toNat + 1) := by
  apply BitVec.eq_of_toNat_eq
  rw [BitVec.toNat_add, BitVec.toNat_ofNat, show (1 : Byte).toNat = 1 from rfl]

theorem sub_one_eq_ofNat (m : Byte) : m - 1 = BitVec.ofNat 8 (m.toNat + 255) := by
  apply BitVec.eq_of_toNat_eq
  rw [BitVec.toNat_sub, BitVec.toNat_ofNat, show (1 : Byte).toNat = 1 from rfl]
  omega

/-- Settles O16: the result bits case by case; the flags are `setNZ` of the result with the operation's carry. -/
theorem shiftsCountsBits : Obligations.ShiftsCountsBits := by
  intro k m p
  refine ⟨fun j => ?_, ?_⟩
  · cases k with
    | asl => exact getLsbD_shl_one m j
    | lsr => exact getLsbD_shr_one m j
    | rol => exact getLsbD_rol m p.c j
    | ror => exact getLsbD_ror m p.c j
    | inc => exact congrArg (BitVec.getLsbD · j) (add_one_eq_ofNat m)
    | dec => exact congrArg (BitVec.getLsbD · j) (sub_one_eq_ofNat m)
  · rw [RmwKind.result_p, Flags.setNZ_eq_toNat]
    cases k <;> simp only [RmwKind.carry, bit_seven, bit_zero]

end Sys2Proof.Machine
end

section
/-! PROOFS. Runs of read cycles wherever they lead: the bus cycles of such a run, what it makes of the registers, and how a
pull and the end of an instruction continue it. `PlainReads` is about plain memory alone; here a byte may come from a
device, and only what is said of its value asks for a plain address. -/

namespace Sys2Proof.Machine

/-! ### Runs of read cycles -/

/-- `t` is what the given read cycles make of `s`, with the registers then as in `r`: no byte of memory changes, a read at a
plain address has delivered memory's byte, and when all addresses are plain the world has passed as many idle cycles. -/
structure ReadRun (s : State) (cycles : List BusCycle) (r : Regs) (t : State) : Prop where
  regs : t.regs = r
  cfg : t.cfg = s.cfg
  mem : t.mem = s.mem
  bus : t.bus = s.bus ++ cycles
  byte : ∀ c ∈ cycles, Plain s.cfg c.addr → c.data = s.peek c.addr
  world : (∀ c ∈ cycles, Plain s.cfg c.addr) → t.world = (State.idleCycles cycles.length s).world

section
variable {s t u : State} {cycles : List BusCycle} {r : Regs}

theorem ReadRun.refl (s : State) : ReadRun s [] s.regs s :=
  ⟨rfl, rfl, rfl, (List.append_nil s.bus).symm, by simp, fun _ => rfl⟩

theorem ReadRun.peek (h : ReadRun s cycles r t) (a : Word) : t.peek a = s.peek a :=
  congrArg (Memory.read · a.toNat) h.mem

/-- One more read cycle. -/
theorem ReadRun.read (h : ReadRun s cycles r t) (a : Word) :
    ReadRun s (cycles ++ [⟨a, (readCycle a t).1, true⟩]) r (readCycle a t).2 := by
  have hplain (ha : Plain s.cfg a) := readCycle_plain a t (h.cfg.symm ▸ ha)
  refine ⟨(readCycle_regs a t).trans h.regs, (readCycle_cfg a t).trans h.cfg, (readCycle_mem a t).trans h.mem, ?_, ?_, ?_⟩
  · rw [readCycle_bus, h.bus, List.append_assoc]
  · simp only [List.forall_mem_append, List.forall_mem_singleton]
    exact ⟨h.byte, fun ha => (hplain ha).1.trans (h.peek a)⟩
  · simp only [List.forall_mem_append, List.forall_mem_singleton, List.length_append]
    rintro ⟨hcycles, ha⟩
    exact idleCycles_succ cycles.length s t _ (h.world hcycles) (hplain ha).2

/-- Writing registers and latches does not end the run. -/
theorem ReadRun.congr {r' : Regs} (h : ReadRun s cycles r t) (hregs : u.regs = r') (hcfg : u.cfg = t.cfg)
    (hmem : u.mem = t.mem) (hbus : u.bus = t.bus) (hworld : u.world = t.world) : ReadRun s cycles r' u :=
  ⟨hregs, hcfg.trans h.cfg, hmem.trans h.mem, hbus.trans h.bus, h.byte, fun hplain => hworld.trans (h.world hplain)⟩

theorem ReadRun.setPc (h : ReadRun s cycles r t) (w : Word) : ReadRun s cycles { r with pc := w } (t.setPc w) :=
  h.congr (by rw [State.setPc_regs, h.regs]) rfl rfl rfl rfl

theorem ReadRun.setS (h : ReadRun s cycles r t) (v : Byte) : ReadRun s cycles { r with s := v } (t.setS v) :=
  h.congr (by rw [State.setS_regs, h.regs]) rfl rfl rfl rfl

theorem ReadRun.setP (h : ReadRun s cycles r t) (p : Flags) : ReadRun s cycles { r with p := p } (t.setP p) :=
  h.congr (by rw [State.setP_regs, h.regs]) rfl rfl rfl rfl

theorem ReadRun.incPc (h : ReadRun s cycles r t) : ReadRun s cycles { r with pc := r.pc + 1 } t.incPc :=
  h.congr (by rw [State.incPc_regs, h.regs]) rfl rfl rfl rfl

/-- The instruction ends after the run. -/
theorem ReadRun.finish (h : ReadRun s cycles r t) : ∃ u, finish t = .next u ∧ ReadRun s cycles r u ∧ AtBoundary u :=
  ⟨t.boundary, rfl, h.congr h.regs rfl rfl rfl rfl, t.boundary_atBoundary⟩

/-! ### The cycles of one-byte instructions and of pulls (R200, R264, R353, R354) -/

theorem impliedCycle_run (s : State) :
    ReadRun s [⟨s.cpu.pc, (readCycle s.cpu.pc s).1, true⟩] s.regs (impliedCycle s) :=
  (ReadRun.refl s).read s.cpu.pc

theorem ReadRun.pull (h : ReadRun s cycles r t) :
    ReadRun s (cycles ++ [⟨stackAt s.cfg r.s, (pullRead t).1, true⟩]) r (pullRead t).2 := by
  have haddr : stackAddr t = stackAt s.cfg r.s := by rw [stackAddr, h.cfg, ← State.regs_s, h.regs, stackAt]
  rw [← haddr]
  exact h.read (stackAddr t)

theorem ReadRun.pullThenUp (h : ReadRun s cycles r t) :
    ReadRun s (cycles ++ [⟨stackAt s.cfg r.s, (pullNext t).1, true⟩]) { r with s := r.s + 1 } (pullNext t).2 := by
  obtain ⟨-, hregs, -⟩ := pullNext_all t
  rw [← State.regs_s, h.regs] at hregs
  exact h.pull.congr hregs rfl rfl rfl rfl

end

/-- The discarded cycles with which every pull begins. -/
theorem pullStart_impliedCycle_run (s : State) :
    ∃ x y, ReadRun s [⟨s.cpu.pc, x, true⟩, ⟨stackAt s.cfg s.cpu.s, y, true⟩] { s.regs with s := s.cpu.s + 1 }
      (pullStart (impliedCycle s)) :=
  ⟨_, _, (impliedCycle_run s).pullThenUp⟩

theorem stackPointer_up_two (sp : Byte) : sp + 1 + 1 = sp + 2 := BitVec.add_assoc sp 1 1

theorem stackPointer_up_three (sp : Byte) : sp + 2 + 1 = sp + 3 := BitVec.add_assoc sp 2 1

end Sys2Proof.Machine
end

section
/-! PROOFS. Jumps, branches and returns (O7, O9, O11, O23): each is one run of read cycles, with its cycles listed, and the
statements read the registers, the bytes pulled and the world off that run. -/

namespace Sys2Proof.Machine

/-! ### Jumps (R350, R351) -/

theorem exec_jmpAbs (w : Word) (s : State) : exec (.jmpAbs w) s = finish (s.setPc w) := rfl

theorem exec_jmpInd (w : Word) (s : State) : exec (.jmpInd w) s = execJmpInd w s := rfl

/-- JMP (ind) reads the pointer's two bytes in one page. -/
theorem execJmpInd_run (w : Word) (s : State) :
    ∃ t lo hi, execJmpInd w s = .next t ∧
      ReadRun s [⟨w, lo, true⟩, ⟨mkWord (hiByte w) (loByte w + 1), hi, true⟩] { s.regs with pc := mkWord hi lo } t ∧
      AtBoundary t := by
  obtain ⟨t, hnext, hrun, hend⟩ :=
    ((((ReadRun.refl s).read w).read (uncorrected w 1)).setPc
      (mkWord (readCycle (uncorrected w 1) (readCycle w s).2).1 (readCycle w s).1)).finish
  exact ⟨t, _, _, hnext, hrun, hend⟩

/-- Settles O7: JMP abs has no cycle of its own, JMP (ind) the two of `execJmpInd_run`. -/
theorem jumps : Obligations.Jumps := by
  intro w s
  refine ⟨?_, ?_⟩
  · exact ⟨_, exec_jmpAbs w s, rfl, fun _ => rfl, rfl, rfl, State.boundary_atBoundary _⟩
  · obtain ⟨t, lo, hi, hnext, hrun, hend⟩ := execJmpInd_run w s
    have hbytes := hrun.byte
    have hworld := hrun.world
    simp only [List.forall_mem_cons] at hbytes hworld
    obtain ⟨hlo, hhi, -⟩ := hbytes
    exact ⟨t, lo, hi, (exec_jmpInd w s).trans hnext, hrun.regs, hlo, hhi, hrun.bus,
      fun hfirst hsecond => hworld ⟨hfirst, hsecond, by simp⟩, hrun.peek, hend⟩

/-! ### Branches (R212, R357 to R365) -/

theorem exec_of_branchForm {i : Instr} {cond : Flags → Bool} {off : Byte} (h : branchForm i = some (cond, off))
    (s : State) : exec i s = branchOp (cond s.cpu.p) off s := by
  cases i
  all_goals cases h
  all_goals simp only [beq_true, beq_false]
  all_goals rfl

/-- The model's wrapping sum is the integer sum modulo 2^16. -/
theorem branchTarget_eq_ofInt (off : Byte) (s : State) :
    branchTarget off s = BitVec.ofInt 16 (s.cpu.pc.toNat + off.toInt) := by
  rw [BitVec.ofInt_add, BitVec.ofInt_natCast, BitVec.ofNat_toNat, BitVec.setWidth_eq]
  rfl

/-- The addresses a taken branch to `w` reads: PC, and on a page change the target's low byte in the old page. -/
def branchReads (pc w : Word) : List Word :=
  if hiByte w = hiByte pc then [pc] else [pc, mkWord (hiByte pc) (loByte w)]

/-- A taken branch is the run of these reads. -/
theorem branchOp_taken_run (off : Byte) (s : State) :
    ∃ t cycles, branchOp true off s = .next t ∧ ReadRun s cycles { s.regs with pc := branchTarget off s } t ∧
      cycles.map BusCycle.addr = branchReads s.cpu.pc (branchTarget off s) ∧ AtBoundary t := by
  have hnear := ((ReadRun.refl s).read s.cpu.pc).setPc (mkWord (hiByte s.cpu.pc) (loByte (branchTarget off s)))
  simp only [branchOp, Bool.not_true, Bool.false_eq_true, if_false, branchReads]
  split
  · obtain ⟨t, hnext, hrun, hend⟩ := (hnear.setPc (branchTarget off s)).finish
    exact ⟨t, _, hnext, hrun, rfl, hend⟩
  · obtain ⟨t, hnext, hrun, hend⟩ :=
      ((hnear.read (mkWord (hiByte s.cpu.pc) (loByte (branchTarget off s)))).setPc (branchTarget off s)).finish
    exact ⟨t, _, hnext, hrun, rfl, hend⟩

/-- Settles O11: a branch not taken ends at once, one taken is the run of its reads. -/
theorem branches : Obligations.Branches := by
  intro i cond off s hform
  rw [exec_of_branchForm hform]
  refine ⟨fun hfalse => by rw [hfalse]; rfl, fun htrue => ?_⟩
  obtain ⟨t, cycles, hnext, hrun, haddrs, hend⟩ := branchOp_taken_run off s
  have hpc : t.cpu.pc = branchTarget off s := congrArg Regs.pc hrun.regs
  refine ⟨t, by rw [htrue, hnext], ?_, hrun.peek, ?_, fun hplainPc hplainNear => ?_, hend⟩
  · rw [hrun.regs, branchTarget_eq_ofInt]
  · rw [hrun.bus, List.map_append, haddrs, hpc, branchReads]
  · have hplain : ∀ a ∈ cycles.map BusCycle.addr, Plain s.cfg a := by
      rw [haddrs, branchReads, ← hpc]
      split <;> simp [hplainPc, hplainNear]
    have hlength : cycles.length = if hiByte t.cpu.pc = hiByte s.cpu.pc then 1 else 2 := by
      rw [← List.length_map (f := BusCycle.addr), haddrs, branchReads, hpc]
      split <;> rfl
    rw [← hlength]
    exact hrun.world (List.forall_mem_map.mp hplain)

/-! ### Returns (R353, R354) -/

theorem exec_rts (s : State) : exec .rts s = execRts s := rfl

theorem exec_rti (s : State) : exec .rti s = execRti s := rfl

/-- RTS reads at PC, at S (both discarded), at S + 1 and S + 2, and at the word pulled. -/
theorem execRts_run (s : State) :
    ∃ t x y lo hi z, execRts s = .next t ∧
      ReadRun s [⟨s.cpu.pc, x, true⟩, ⟨stackAt s.cfg s.cpu.s, y, true⟩, ⟨stackAt s.cfg (s.cpu.s + 1), lo, true⟩,
        ⟨stackAt s.cfg (s.cpu.s + 2), hi, true⟩, ⟨mkWord hi lo, z, true⟩]
        { s.regs with s := s.cpu.s + 2, pc := mkWord hi lo + 1 } t ∧ AtBoundary t := by
  obtain ⟨x, y, hstart⟩ := pullStart_impliedCycle_run s
  have hpulled := hstart.pullThenUp.pull
  rw [stackPointer_up_two] at hpulled
  obtain ⟨t, hnext, hrun, hend⟩ := ((hpulled.setPc (mkWord _ _)).read (mkWord _ _)).incPc.finish
  exact ⟨t, x, y, _, _, _, hnext, hrun, hend⟩

/-- RTI reads at PC, at S (both discarded), then the flags, PC low and PC high above S. -/
theorem execRti_run (s : State) :
    ∃ t x y f lo hi, execRti s = .next t ∧
      ReadRun s [⟨s.cpu.pc, x, true⟩, ⟨stackAt s.cfg s.cpu.s, y, true⟩, ⟨stackAt s.cfg (s.cpu.s + 1), f, true⟩,
        ⟨stackAt s.cfg (s.cpu.s + 2), lo, true⟩, ⟨stackAt s.cfg (s.cpu.s + 3), hi, true⟩]
        { s.regs with s := s.cpu.s + 3, pc := mkWord hi lo, p := Flags.ofByte f } t ∧ AtBoundary t := by
  obtain ⟨x, y, hstart⟩ := pullStart_impliedCycle_run s
  have hflags := hstart.pullThenUp
  rw [stackPointer_up_two] at hflags
  have hpulled := (hflags.setP (Flags.ofByte (pullNext (pullStart (impliedCycle s))).1)).pullThenUp.pull
  rw [stackPointer_up_three] at hpulled
  obtain ⟨t, hnext, hrun, hend⟩ := (hpulled.setPc (mkWord _ _)).finish
  exact ⟨t, x, y, _, _, _, hnext, hrun, hend⟩

/-- Settles O9: the bytes and the world of `execRts_run`. -/
theorem rtsReturns : Obligations.RtsReturns := by
  intro s
  obtain ⟨t, x, y, lo, hi, z, hnext, hrun, hend⟩ := execRts_run s
  have hbytes := hrun.byte
  have hworld := hrun.world
  simp only [List.forall_mem_cons] at hbytes hworld
  obtain ⟨-, -, hlo, hhi, -⟩ := hbytes
  refine ⟨t, lo, hi, (exec_rts s).trans hnext, hrun.regs, hlo, hhi, fun hpc hstack hword => ?_, hrun.peek, hend⟩
  have hold : Plain s.cfg (stackAt s.cfg s.cpu.s) := by simpa using hstack 0
  exact hworld ⟨hpc, hold, hstack 1, hstack 2, hword, by simp⟩

/-- Settles O23: the bytes and the world of `execRti_run`. -/
theorem rtiReturns : Obligations.RtiReturns := by
  intro s
  obtain ⟨t, x, y, f, lo, hi, hnext, hrun, hend⟩ := execRti_run s
  have hbytes := hrun.byte
  have hworld := hrun.world
  simp only [List.forall_mem_cons] at hbytes hworld
  obtain ⟨-, -, hflags, hlo, hhi, -⟩ := hbytes
  refine ⟨t, f, lo, hi, (exec_rti s).trans hnext, hrun.regs, hflags, hlo, hhi, fun hpc hstack => ?_, hrun.peek, hend⟩
  have hold : Plain s.cfg (stackAt s.cfg s.cpu.s) := by simpa using hstack 0
  exact hworld ⟨hpc, hold, hstack 1, hstack 2, hstack 3, by simp⟩

end Sys2Proof.Machine
end

section
/-! PROOFS. JSR and BRK (O8, O10, O22): the address pushed high byte first, the jump after it, and the RTS that undoes a
JSR. -/

namespace Sys2Proof.Machine

/-! ### Words and stored bytes -/

theorem mkWord_hiByte_loByte (w : Word) : mkWord (hiByte w) (loByte w) = w := operandWord_setWidth_extractLsb' w

theorem stored_of_ram {cfg : Config} {a : Word} (h : target cfg a = .ram) (v : Byte) (bytes : Word → Byte) :
    stored cfg a v bytes a = v := if_pos ⟨h, rfl⟩

theorem stored_of_ne {cfg : Config} {a b : Word} (h : target cfg b = .ram → b ≠ a) (v : Byte) (bytes : Word → Byte) :
    stored cfg a v bytes b = bytes b := by
  refine if_neg ?_
  rintro ⟨hram, rfl⟩
  exact h hram rfl

theorem stackAt_inj {cfg : Config} {x y : Byte} (h : stackAt cfg x = stackAt cfg y) : x = y := by
  have hzext : zext16 x = zext16 y := (BitVec.add_right_inj _).mp h
  simpa [zext16, loByte] using congrArg loByte hzext

theorem accepts_of_ram {cfg : Config} {a : Word} (h : target cfg a = .ram) (v : Byte) : Accepts cfg a v = true := by
  simp [Accepts, h]

/-! ### JSR (R352) -/

theorem exec_jsrAbs (w : Word) (s : State) : exec (.jsrAbs w) s = execJsrAbs w s := rfl

/-- What the discarded stack read of a JSR and its two pushes make of the state before them. -/
structure ReturnPushed (s u : State) : Prop where
  regs : u.regs = { s.regs with s := s.cpu.s - 2 }
  cfg : u.cfg = s.cfg
  peek : ∀ b, u.peek b = stored s.cfg (stackAt s.cfg (s.cpu.s - 1)) (loByte s.cpu.pc)
    (stored s.cfg (stackAt s.cfg s.cpu.s) (hiByte s.cpu.pc) s.peek) b
  world : Plain s.cfg (stackAt s.cfg s.cpu.s) → Plain s.cfg (stackAt s.cfg (s.cpu.s - 1)) →
    u.world = (State.idleCycles 3 s).world

/-- Accepted pushes complete: the discarded read moves neither the stack pointer nor PC nor memory. -/
theorem returnPushes_next {s : State} (hwf : Memory.wf s.mem = true)
    (hhigh : Accepts s.cfg (stackAt s.cfg s.cpu.s) (hiByte s.cpu.pc) = true)
    (hlow : Accepts s.cfg (stackAt s.cfg (s.cpu.s - 1)) (loByte s.cpu.pc) = true) :
    ∃ t u, push (hiByte s.cpu.pc) (discardCycle (stackAddr s) s) = .next t ∧ push (loByte t.cpu.pc) t = .next u ∧
      ReturnPushed s u := by
  have hsp : (discardCycle (stackAddr s) s).cpu.s = s.cpu.s := discardCycle_s _ s
  have hbytes : (discardCycle (stackAddr s) s).peek = s.peek := funext fun b => discardCycle_peek _ b s
  obtain ⟨t, hnextT, hregsT, hcfgT, -, hwfT, hpeekT, hworldT⟩ :=
    push_all (hiByte s.cpu.pc) (discardCycle (stackAddr s) s) (by rwa [discardCycle_mem]) (by rwa [discardCycle_cfg, hsp])
  rw [discardCycle_regs, hsp] at hregsT
  rw [discardCycle_cfg] at hcfgT
  rw [discardCycle_cfg, hsp, hbytes] at hpeekT
  rw [discardCycle_cfg, hsp] at hworldT
  have hspT : t.cpu.s = s.cpu.s - 1 := congrArg Regs.s hregsT
  have hpcT : t.cpu.pc = s.cpu.pc := congrArg Regs.pc hregsT
  obtain ⟨u, hnextU, hregsU, hcfgU, -, -, hpeekU, hworldU⟩ :=
    push_all (loByte t.cpu.pc) t hwfT (by rwa [hcfgT, hspT, hpcT])
  rw [hcfgT, hspT, hpcT, funext hpeekT] at hpeekU
  rw [hcfgT, hspT] at hworldU
  have hdown : s.cpu.s - 1 - 1 = s.cpu.s - 2 := by bv_omega
  refine ⟨t, u, hnextT, hnextU, ?_, hcfgU.trans hcfgT, hpeekU, fun hplainHigh hplainLow => ?_⟩
  · rw [hregsU, hregsT, hspT, hdown]
  · have hdiscard := (readCycle_plain (stackAddr s) s hplainHigh).2
    exact idleCycles_succ 2 s t u (idleCycles_two s _ t hdiscard (hworldT hplainHigh)) (hworldU hplainLow)

/-- A JSR whose pushes are accepted ends with the read of its last byte. -/
theorem execJsrAbs_next (w : Word) {s : State} (hwf : Memory.wf s.mem = true)
    (hhigh : Accepts s.cfg (stackAt s.cfg s.cpu.s) (hiByte s.cpu.pc) = true)
    (hlow : Accepts s.cfg (stackAt s.cfg (s.cpu.s - 1)) (loByte s.cpu.pc) = true) :
    ∃ u t hi, execJsrAbs w s = .next t ∧ ReturnPushed s u ∧
      ReadRun u [⟨s.cpu.pc, hi, true⟩] { u.regs with pc := mkWord hi (loByte w) } t ∧ AtBoundary t := by
  obtain ⟨t, u, hfirst, hsecond, hpushed⟩ := returnPushes_next hwf hhigh hlow
  have hpc : u.cpu.pc = s.cpu.pc := congrArg Regs.pc hpushed.regs
  obtain ⟨v, hnext, hrun, hend⟩ := (((ReadRun.refl u).read s.cpu.pc).setPc (mkWord _ (loByte w))).finish
  refine ⟨u, v, _, ?_, hpushed, hrun, hend⟩
  simp only [execJsrAbs, hfirst, hsecond, andThen, hpc]
  exact hnext

/-- Settles O8: the pushes give the stack bytes, the run after them PC. -/
theorem jsrCalls : Obligations.JsrCalls := by
  intro w s hwf hhigh hlow
  obtain ⟨u, t, hi, hnext, hpushed, hrun, hend⟩ := execJsrAbs_next w hwf hhigh hlow
  have hregs : t.regs = { s.regs with s := s.cpu.s - 2, pc := mkWord hi (loByte w) } := by rw [hrun.regs, hpushed.regs]
  have hpeek := fun b => (hrun.peek b).trans (hpushed.peek b)
  have hbyte : Plain s.cfg s.cpu.pc → hi = t.peek s.cpu.pc := fun hplain => by
    rw [hrun.peek]
    exact hrun.byte _ List.mem_cons_self (hpushed.cfg ▸ hplain)
  refine ⟨t, hi, (exec_jsrAbs w s).trans hnext, hregs, hpeek, hbyte, fun hplain hencoded hapart => ?_,
    fun hplain hplainHigh hplainLow => ?_, hend⟩
  · have hhi : hi = hiByte w := by
      rw [hbyte hplain, hpeek, stored_of_ne fun hram => (hapart hram).2, stored_of_ne fun hram => (hapart hram).1, hencoded]
    have hpc : t.cpu.pc = mkWord hi (loByte w) := congrArg Regs.pc hregs
    rw [hpc, hhi, mkWord_hiByte_loByte]
  · have hlast : t.world = u.idleCycle.world := hrun.world (by simpa [hpushed.cfg] using hplain)
    exact idleCycles_succ 3 s u t (hpushed.world hplainHigh hplainLow) hlast

/-- The two stack addresses of a pushed word differ, so the low byte does not overwrite the high one. -/
theorem stackAt_ne_below (cfg : Config) (sp : Byte) : stackAt cfg sp ≠ stackAt cfg (sp - 1) := fun h => by
  have hsp := stackAt_inj h
  bv_omega

/-- Settles O10: RTS pulls the two bytes that `jsrCalls` says were pushed. -/
theorem jsrThenRts : Obligations.JsrThenRts := by
  intro w s t u hwf hramHigh hramLow hjsr hcfg hspSame hhighSame hlowSame
  obtain ⟨t', hi', hnext, hregs, hpeek, -⟩ := jsrCalls w s hwf (accepts_of_ram hramHigh _) (accepts_of_ram hramLow _)
  cases hjsr.symm.trans hnext
  obtain ⟨v, lo, hi, hrts, hregsV, hlo, hhi, -⟩ := rtsReturns u
  have hsp : u.cpu.s = s.cpu.s - 2 := hspSame.trans (congrArg Regs.s hregs)
  have hup1 : s.cpu.s - 2 + 1 = s.cpu.s - 1 := by bv_omega
  have hup2 : s.cpu.s - 2 + 2 = s.cpu.s := by bv_omega
  rw [hsp, hcfg, hup1, hlowSame, hpeek, stored_of_ram hramLow] at hlo
  rw [hsp, hcfg, hup2, hhighSame, hpeek, stored_of_ne fun _ => stackAt_ne_below s.cfg s.cpu.s, stored_of_ram hramHigh] at hhi
  have hpc : v.cpu.pc = mkWord hi lo + 1 := congrArg Regs.pc hregsV
  have hspV : v.cpu.s = u.cpu.s + 2 := congrArg Regs.s hregsV
  refine ⟨v, hrts, ?_, by rw [hspV, hsp, hup2]⟩
  rw [hpc, hlo (.inl hramLow), hhi (.inl hramHigh), mkWord_hiByte_loByte]

/-! ### BRK (R355, R609) -/

theorem exec_brk (s : State) : exec .brk s = enterInterrupt true s.cfg.vecIrq (impliedCycle s).incPc := rfl

/-- Settles O22: the shared entry from the state behind BRK's second byte. -/
theorem brkEnters : Obligations.BrkEnters := by
  intro s hwf hhigh hlow hflags
  have hrun := (impliedCycle_run s).incPc
  have hsp : (impliedCycle s).incPc.cpu.s = s.cpu.s := congrArg Regs.s hrun.regs
  have hpc : (impliedCycle s).incPc.cpu.pc = s.cpu.pc + 1 := congrArg Regs.pc hrun.regs
  have hp : (impliedCycle s).incPc.cpu.p = s.cpu.p := congrArg Regs.p hrun.regs
  have hbytes : (impliedCycle s).incPc.peek = s.peek := funext hrun.peek
  have hentry := enterInterrupt_next true s.cfg.vecIrq (impliedCycle s).incPc
  rw [hrun.mem, hrun.cfg, hrun.regs, hsp, hpc, hp, hbytes] at hentry
  obtain ⟨t, lo, hi, hnext, hregs, -, hpeek, -, hlo, hhi, hworld, hend⟩ := hentry hwf hhigh hlow hflags
  refine ⟨t, lo, hi, (exec_brk s).trans hnext, hregs, hpeek, hlo, hhi, fun hplain hstack hvecLo hvecHi => ?_, hend⟩
  have hfirst : Plain s.cfg (stackAt s.cfg s.cpu.s) := by simpa using hstack 0
  have hbefore : (impliedCycle s).incPc.world = (State.idleCycles 1 s).world := hrun.world (by simpa using hplain)
  rw [hworld hfirst (hstack 1) (hstack 2) hvecLo hvecHi, State.idleCycles_add 1 5 s]
  exact State.idleCycles_world_congr 5 _ _ hbefore

end Sys2Proof.Machine
end

section
/-! PROOFS. Accesses of a VIA's port data (O35, O36): how each bit of the flags, of a port's pins and of the byte read comes
about, and what the access clears and drives. -/

namespace Sys2Proof.Machine

/-! ### Single bits -/

theorem getLsbD_setBit {n i j : Nat} (v : BitVec n) (b : Bool) (hj : j < n) :
    (setBit n v i b).getLsbD j = if j = i then b else v.getLsbD j := by
  have hone : (1#n <<< i).getLsbD j = decide (j = i) := by
    rw [BitVec.getLsbD_shiftLeft, BitVec.getLsbD_one, Bool.eq_iff_iff]
    simp only [Bool.and_eq_true, Bool.not_eq_true', decide_eq_true_eq, decide_eq_false_iff_not]
    omega
  unfold setBit
  cases b
  · rw [if_neg Bool.false_ne_true, BitVec.getLsbD_and, BitVec.getLsbD_not, hone, decide_eq_true hj]
    by_cases hji : j = i <;> simp [hji]
  · rw [if_pos rfl, BitVec.getLsbD_or, hone]
    by_cases hji : j = i <;> simp [hji]

/-- A flag is cleared and the others stay. -/
theorem getLsbD_clearFlag (f : BitVec 7) (i : Nat) (j : Fin 7) :
    (setBit 7 f i false).getLsbD j.val = (f.getLsbD j.val && j.val != i) := by
  rw [getLsbD_setBit f false j.isLt]
  by_cases h : j.val = i <;> simp [h]

/-- A flag is raised and the others stay. -/
theorem getLsbD_raiseFlag (f : BitVec 7) (i : Nat) (j : Fin 7) :
    (setBit 7 f i true).getLsbD j.val = (f.getLsbD j.val || j.val == i) := by
  rw [getLsbD_setBit f true j.isLt]
  by_cases h : j.val = i <;> simp [h]

theorem bit_setBit (v : Byte) (i : Nat) (b : Bool) (k : Fin 8) :
    bit (setBit 8 v i b) k.val = if k.val = i then b else bit v k.val :=
  getLsbD_setBit v b k.isLt

/-! ### Pins (R404, R405) -/

theorem Port.bit_drive (q : Port) (k : Fin 8) :
    bit q.drive k.val = if bit q.ddr k.val then bit q.or k.val else bit q.ext k.val := by
  rw [Port.drive, BitVec.or_comm, bit_merge]

/-- Port B's pins after a recomputation: PB7 is T1's level while ACR bit 7 is set. -/
theorem Via.bit_refreshB (v : Via) (k : Fin 8) :
    bit v.refreshB.b.p k.val =
      if k.val = 7 ∧ bit v.acr 7 = true then v.t1Pb7
      else if bit v.b.ddr k.val then bit v.b.or k.val else bit v.b.ext k.val := by
  unfold Via.refreshB
  cases hacr : bit v.acr 7
  · simp [Port.bit_drive]
  · simp [bit_setBit, Port.bit_drive]

/-- What a read of port data takes each bit from, before any PB7 override (R410, R412). -/
theorem Via.bit_portValue (v : Via) (x : PortSel) (k : Fin 8) :
    bit (v.portValue x) k.val =
      if bit (v.port x).ddr k.val then bit (v.port x).or k.val
      else if v.latchEnable x then bit (v.port x).latch k.val else bit (v.port x).p k.val := by
  rw [Via.portValue, BitVec.or_comm, bit_merge, Via.portIn]
  cases v.latchEnable x <;> rfl

theorem Via.bit_readOrb (v : Via) (k : Fin 8) :
    bit v.readOrb.1 k.val =
      if k.val = 7 ∧ bit v.acr 7 = true then v.t1Pb7
      else if bit v.b.ddr k.val then bit v.b.or k.val
      else if bit v.acr 1 then bit v.b.latch k.val else bit v.b.p k.val := by
  have hport : bit (v.portValue .b) k.val = if bit v.b.ddr k.val then bit v.b.or k.val
      else if bit v.acr 1 then bit v.b.latch k.val else bit v.b.p k.val := v.bit_portValue .b k
  rw [← hport]
  unfold Via.readOrb
  cases hacr : bit v.acr 7
  · simp
  · simp [bit_setBit]

/-! ### Flags and C2 on an access of port data (R406, R407) -/

/-- The independent-interrupt modes are 1 and 3. -/
theorem not_independentC2 (m : BitVec 3) : (!independentC2 m) = (m != 1 && m != 3) := by
  revert m; decide

/-- `clear_on_access` leaves the flags the claims name. -/
theorem Via.clearOnAccess_ifr (v : Via) (x : PortSel) (j : Fin 7) :
    (v.clearOnAccess x).ifr.getLsbD j.val = flagsAfterAccess x (v.c2Mode x) v.ifr j.val := by
  unfold Via.clearOnAccess flagsAfterAccess
  rw [Bool.and_assoc (j.val == c2Bit x), ← not_independentC2]
  cases independentC2 (v.c2Mode x)
  · simp only [Bool.false_eq_true, if_false, getLsbD_clearFlag, Bool.not_false, Bool.and_true, bne]
  · simp only [if_true, getLsbD_clearFlag, Bool.not_true, Bool.and_false, Bool.not_false, Bool.and_true, bne]

/-- `c2_handshake` as one update of its port: in every mode but 4 and 5 it writes back what was there. -/
theorem Via.c2Handshake_eq (cfg : Config) (v : Via) (x : PortSel) :
    v.c2Handshake cfg x = v.setPort x { v.port x with
      c2 := if v.c2Mode x = 4 ∨ v.c2Mode x = 5 then false else (v.port x).c2
      pulse := if v.c2Mode x = 5 then cfg.viaPulseLen else (v.port x).pulse } := by
  unfold Via.c2Handshake
  by_cases h4 : v.c2Mode x = 4
  · simp [h4]
  · by_cases h5 : v.c2Mode x = 5
    · simp [h5]
    · simp only [h4, h5, if_false, or_self]
      cases x <;> rfl

/-- What an access of port A's data does after the byte has passed: flags and handshake, unless register $F goes
without them. -/
def Via.afterPortA (cfg : Config) (handshake : Bool) (v : Via) : Via :=
  if handshake then (v.clearOnAccess .a).c2Handshake cfg .a else v

theorem Via.afterPortA_eq (cfg : Config) (handshake : Bool) (v : Via) :
    v.afterPortA cfg handshake = { v with
      ifr := (v.afterPortA cfg handshake).ifr
      a := { v.a with
        c2 := if handshake = true ∧ (v.c2Mode .a = 4 ∨ v.c2Mode .a = 5) then false else v.a.c2
        pulse := if handshake = true ∧ v.c2Mode .a = 5 then cfg.viaPulseLen else v.a.pulse } } := by
  cases handshake with
  | false => simp [Via.afterPortA]
  | true =>
    simp only [Via.afterPortA, if_true, true_and]
    rw [Via.c2Handshake_eq]
    rfl

theorem Via.afterPortA_ifr (cfg : Config) (handshake : Bool) (v : Via) (j : Fin 7) :
    (v.afterPortA cfg handshake).ifr.getLsbD j.val =
      if handshake then flagsAfterAccess .a (v.c2Mode .a) v.ifr j.val else v.ifr.getLsbD j.val := by
  cases handshake with
  | false => rfl
  | true =>
    simp only [Via.afterPortA, if_true]
    rw [Via.c2Handshake_eq]
    exact v.clearOnAccess_ifr .a j

/-! ### Reads of port data -/

theorem exec_portARead {id : ViaId} {s : State} {i : Instr} {r : Word} {handshake : Bool}
    (h : i = .viaReadOra id ∧ r = 1 ∧ handshake = true ∨
      i = .viaReadOraF id ∧ r = 15 ∧ handshake = s.cfg.viaRegFHandshake) :
    exec i s = .next (viaAccessed id r ((s.via id).portValue .a) true ((s.via id).afterPortA s.cfg handshake) s) := by
  obtain ⟨rfl, rfl, rfl⟩ | ⟨rfl, rfl, rfl⟩ := h <;> rfl

/-- Settles O35: each bit by `Via.bit_readOrb` and `Via.bit_portValue`, flags and C2 by the two shared rules. -/
theorem viaPortReads : Obligations.ViaPortReads := by
  intro id s v
  refine ⟨⟨_, _, rfl, v.bit_readOrb, rfl, v.clearOnAccess_ifr .b⟩, ?_⟩
  intro i r handshake hrow
  refine ⟨_, _, exec_portARead hrow, v.bit_portValue .a, ?_, ?_⟩
  · rintro rfl
    rfl
  · rintro rfl
    have heq := v.afterPortA_eq s.cfg true
    simp only [true_and] at heq
    exact ⟨heq, v.afterPortA_ifr s.cfg true⟩

/-! ### Writes of port data -/

/-- Port A's pins after `or` is written, whatever the handshake does. -/
theorem Via.bit_afterPortA_refreshA (cfg : Config) (handshake : Bool) (v : Via) (k : Fin 8) :
    bit (v.refreshA.afterPortA cfg handshake).a.p k.val =
      if bit v.a.ddr k.val then bit v.a.or k.val else bit v.a.ext k.val := by
  rw [Via.afterPortA_eq]
  exact v.a.bit_drive k

theorem exec_portAWrite {id : ViaId} {d : Byte} {s : State} {i : Instr} {r : Word} {handshake : Bool}
    (h : i = .viaWriteOra id d ∧ r = 1 ∧ handshake = true ∨
      i = .viaWriteOraF id d ∧ r = 15 ∧ handshake = s.cfg.viaRegFHandshake) :
    exec i s = .next (viaAccessed id r d false
      (({ s.via id with a := { (s.via id).a with or := d } } : Via).refreshA.afterPortA s.cfg handshake) s) := by
  obtain ⟨rfl, rfl, rfl⟩ | ⟨rfl, rfl, rfl⟩ := h <;> rfl

theorem Via.writeOrb_eq (cfg : Config) (d : Byte) (v : Via) :
    v.writeOrb cfg d = { v with
      ifr := (v.writeOrb cfg d).ifr
      b := { v.b with
        or := d, p := ({ v with b := { v.b with or := d } } : Via).refreshB.b.p
        c2 := if v.c2Mode .b = 4 ∨ v.c2Mode .b = 5 then false else v.b.c2
        pulse := if v.c2Mode .b = 5 then cfg.viaPulseLen else v.b.pulse } } := by
  unfold Via.writeOrb
  rw [Via.c2Handshake_eq]
  rfl

theorem Via.writeOrb_ifr (cfg : Config) (d : Byte) (v : Via) (j : Fin 7) :
    (v.writeOrb cfg d).ifr.getLsbD j.val = flagsAfterAccess .b (v.c2Mode .b) v.ifr j.val := by
  unfold Via.writeOrb
  rw [Via.c2Handshake_eq]
  exact Via.clearOnAccess_ifr _ .b j

/-- Settles O36: the pins by `refreshB` and `refreshA` with the new output register, the rest as for a read. -/
theorem viaPortWrites : Obligations.ViaPortWrites := by
  intro id d s v
  refine ⟨⟨v.writeOrb s.cfg d, rfl, ?_, fun k => ?_, v.writeOrb_ifr s.cfg d⟩, ?_⟩
  · rw [Via.writeOrb_eq]
  · rw [Via.writeOrb_eq]
    exact Via.bit_refreshB { v with b := { v.b with or := d } } k
  intro i r handshake hrow
  refine ⟨_, exec_portAWrite hrow, ?_, ?_, ?_⟩
  · rw [Via.afterPortA_eq]
    rfl
  · exact Via.bit_afterPortA_refreshA s.cfg handshake { v with a := { v.a with or := d } }
  · exact Via.afterPortA_ifr s.cfg handshake _

end Sys2Proof.Machine
end

section
/-! PROOFS. The VIA's other registers (O37 to O40): T1's guarded flag, what a start of T1 and a read or write of the flags and
enables do bit by bit, and the rows that store and recompute pins. -/

namespace Sys2Proof.Machine

/-! ### Timer registers (R408, R420 to R430) -/

theorem toNat_loByte (w : Word) : (loByte w).toNat = w.toNat % 256 := BitVec.toNat_setWidth 8 w

theorem toNat_hiByte (w : Word) : (hiByte w).toNat = w.toNat / 256 := by
  have := w.isLt
  simp only [hiByte, BitVec.extractLsb'_toNat, Nat.shiftRight_eq_div_pow]
  omega

theorem Via.t1IrqClear_eq (v : Via) : v.t1IrqClear = { v with ifr := v.t1IrqClear.ifr } := by
  unfold Via.t1IrqClear
  split <;> rfl

/-- The T1 flag is cleared unless T1 has just timed out. -/
theorem Via.t1IrqClear_ifr (v : Via) (j : Fin 7) :
    v.t1IrqClear.ifr.getLsbD j.val = (v.ifr.getLsbD j.val && (j.val != 6 || v.t1Timeout)) := by
  unfold Via.t1IrqClear
  cases v.t1Timeout
  · rw [Bool.or_false]
    exact getLsbD_clearFlag v.ifr 6 j
  · simp

/-- Settles O37: `t1_irq_clear` is the one thing any of these accesses does beside its own register. -/
theorem viaT1Registers : Obligations.ViaT1Registers := fun _ d v =>
  ⟨⟨toNat_loByte v.t1, v.t1IrqClear_eq, v.t1IrqClear_ifr⟩, toNat_hiByte v.t1, rfl, rfl, rfl, rfl,
    Via.t1IrqClear_eq { v with t1lh := d }, Via.t1IrqClear_ifr { v with t1lh := d }⟩

theorem Via.writeT1ch_eq (d : Byte) (v : Via) :
    v.writeT1ch d = { v with
      t1lh := d, t1Pending := true, t1Reload := true, t1Pb7 := false
      ifr := (v.writeT1ch d).ifr
      b := { v.b with p := ({ v with t1Pb7 := false } : Via).refreshB.b.p } } := by
  unfold Via.writeT1ch
  rw [Via.t1IrqClear_eq]
  rfl

/-- Settles O38: every row is its device function's access; the start of T1 and the reads and writes that clear flags
by their rules. -/
theorem viaTimerAccesses : Obligations.ViaTimerAccesses := by
  intro id d s v
  refine ⟨rfl, rfl, rfl, rfl, rfl, rfl, rfl, ⟨v.writeT1ch d, rfl, ?_, fun k => ?_, ?_⟩,
    ⟨_, _, rfl, toNat_loByte v.t2, rfl, getLsbD_clearFlag v.ifr 5⟩, ⟨_, rfl, toNat_hiByte v.t2⟩, rfl,
    ⟨_, rfl, rfl, getLsbD_clearFlag v.ifr 5⟩⟩
  · rw [Via.writeT1ch_eq]
  · rw [Via.writeT1ch_eq]
    exact Via.bit_refreshB { v with t1Pb7 := false } k
  · exact Via.t1IrqClear_ifr _

/-! ### Interrupt registers (R440 to R443) -/

theorem bit_setWidth_seven (f : BitVec 7) (j : Fin 7) : bit (f.setWidth 8) j.val = f.getLsbD j.val := by
  have hj : j.val < 8 := by omega
  rw [bit, BitVec.getLsbD_setWidth, decide_eq_true hj, Bool.true_and]

theorem getLsbD_setWidth_seven (d : Byte) (j : Fin 7) : (d.setWidth 7).getLsbD j.val = bit d j.val := by
  rw [BitVec.getLsbD_setWidth, decide_eq_true j.isLt, Bool.true_and, bit]

/-- Clearing by ones: the bits a byte names are cleared and the others stay. -/
theorem getLsbD_and_not_setWidth (f : BitVec 7) (d : Byte) (j : Fin 7) :
    (f &&& ~~~(d.setWidth 7)).getLsbD j.val = (f.getLsbD j.val && !bit d j.val) := by
  rw [BitVec.getLsbD_and, BitVec.getLsbD_not, getLsbD_setWidth_seven, decide_eq_true j.isLt, Bool.true_and]

/-- Bit 7 of IFR reads 1 exactly when an enabled flag is set. -/
theorem and_ne_zero_iff (e f : BitVec 7) :
    (e &&& f != 0) = true ↔ ∃ j : Fin 7, e.getLsbD j.val = true ∧ f.getLsbD j.val = true := by
  have hzero : (e &&& f = 0) ↔ ∀ j : Fin 7, (e &&& f).getLsbD j.val = false := by
    rw [BitVec.eq_of_getLsbD_eq_iff, Fin.forall_iff]
    exact forall₂_congr fun i _ => by rw [BitVec.ofNat_eq_ofNat, BitVec.getLsbD_zero]
  simp only [bne_iff_ne, ne_eq, hzero, Classical.not_forall, Bool.not_eq_false, BitVec.getLsbD_and, Bool.and_eq_true]

theorem Via.bit_readIfr (v : Via) (j : Fin 7) : bit v.readIfr.1 j.val = v.ifr.getLsbD j.val := by
  have hbit := bit_setBit (v.ifr.setWidth 8) 7 (v.ier &&& v.ifr != 0) j.castSucc
  rw [Fin.val_castSucc, if_neg (Nat.ne_of_lt j.isLt), bit_setWidth_seven] at hbit
  exact hbit

theorem Via.bit_readIfr_seven (v : Via) : bit v.readIfr.1 7 = (v.ier &&& v.ifr != 0) :=
  bit_setBit (v.ifr.setWidth 8) 7 (v.ier &&& v.ifr != 0) 7

theorem Via.bit_readIer (v : Via) (j : Fin 7) : bit v.readIer.1 j.val = v.ier.getLsbD j.val := by
  have hmask : bit 0x80 j.val = false := by revert j; decide
  calc bit v.readIer.1 j.val = (bit (v.ier.setWidth 8) j.val || bit 0x80 j.val) := BitVec.getLsbD_or
    _ = v.ier.getLsbD j.val := by rw [bit_setWidth_seven, hmask, Bool.or_false]

theorem Via.bit_readIer_seven (v : Via) : bit v.readIer.1 7 = true := by
  calc bit v.readIer.1 7 = (bit (v.ier.setWidth 8) 7 || bit 0x80 7) := BitVec.getLsbD_or
    _ = true := Bool.or_true _

theorem Via.writeIfr_ifr (d : Byte) (v : Via) (j : Fin 7) :
    (v.writeIfr d).ifr.getLsbD j.val = (v.ifr.getLsbD j.val && !bit d j.val) := by
  exact getLsbD_and_not_setWidth v.ifr d j

theorem Via.writeIer_ier (d : Byte) (v : Via) (j : Fin 7) :
    (v.writeIer d).ier.getLsbD j.val =
      if bit d 7 then v.ier.getLsbD j.val || bit d j.val else v.ier.getLsbD j.val && !bit d j.val := by
  unfold Via.writeIer
  cases bit d 7
  · exact getLsbD_and_not_setWidth v.ier d j
  · rw [if_pos rfl, if_pos rfl, BitVec.getLsbD_or, getLsbD_setWidth_seven]

/-- Settles O40, a register and a bit at a time. -/
theorem viaInterruptRegisters : Obligations.ViaInterruptRegisters := fun _ d v =>
  ⟨rfl, v.bit_readIfr, (Bool.eq_iff_iff.mp v.bit_readIfr_seven).trans (and_ne_zero_iff v.ier v.ifr), rfl, v.bit_readIer,
    v.bit_readIer_seven, rfl, v.writeIfr_ifr d, rfl, v.writeIer_ier d⟩

/-! ### Direction registers, shift register and control registers (R416, R417, R431 to R434) -/

theorem Via.writeAcr_t1Pending (d : Byte) (v : Via) :
    (v.writeAcr d).t1Pending = if bit v.acr 6 = true ∧ bit d 6 = false then false else v.t1Pending := by
  change (v.t1Pending && !(bit v.acr 6 && !bit d 6)) = _
  cases bit v.acr 6 <;> cases bit d 6 <;> simp

/-- Settles O39: the plain rows by evaluation, the three that drive pins by the pins' rule. -/
theorem viaPlainRegisters : Obligations.ViaPlainRegisters := by
  intro id d s v
  refine ⟨rfl, rfl, rfl, rfl, rfl, rfl, rfl, rfl, rfl, rfl, rfl,
    ⟨v.writeDdrb d, rfl, rfl, Via.bit_refreshB { v with b := { v.b with ddr := d } }⟩,
    ⟨v.writeDdra d, rfl, rfl, Port.bit_drive { v.a with ddr := d }⟩,
    ⟨v.writeAcr d, rfl, ?_, Via.bit_refreshB { v with acr := d, t1Pending := (v.writeAcr d).t1Pending }⟩⟩
  rw [← Via.writeAcr_t1Pending]
  rfl

end Sys2Proof.Machine
end

section
/-! PROOFS. C1 and C2 at the trailing edge (O43): the edge each rule looks for, and what the rule makes of its port. -/

namespace Sys2Proof.Machine

/-! ### C1 (R452) -/

/-- The active edge is a rising one when the polarity bit is 1 and a falling one when it is 0. -/
theorem Via.c1Active_eq (v : Via) (x : PortSel) :
    v.c1Active x =
      (((v.port x).c1 && !(v.port x).oldC1 && v.c1Pos x) || (!(v.port x).c1 && (v.port x).oldC1 && !v.c1Pos x)) := by
  unfold Via.c1Active
  cases (v.port x).c1 <;> cases (v.port x).oldC1 <;> cases v.c1Pos x <;> rfl

/-- The C1 rule as one update of its port: without an active edge it writes back what was there. -/
theorem Via.trailC1_eq (v : Via) (x : PortSel) :
    v.trailC1 x = ({ v with ifr := (v.trailC1 x).ifr } : Via).setPort x { v.port x with
      latch := if v.c1Active x && v.latchEnable x then (v.port x).p else (v.port x).latch
      c2 := if v.c1Active x && v.c2Mode x == 4 then true else (v.port x).c2 } := by
  unfold Via.trailC1
  cases v.c1Active x with
  | false => cases x <;> rfl
  | true =>
    simp only [if_true, Bool.true_and, beq_iff_eq]
    cases x <;> rfl

theorem Via.setPort_ifr (v : Via) (x : PortSel) (q : Port) : (v.setPort x q).ifr = v.ifr := by
  cases x <;> rfl

theorem Via.trailC1_ifr (v : Via) (x : PortSel) (j : Fin 7) :
    (v.trailC1 x).ifr.getLsbD j.val = (v.ifr.getLsbD j.val || (v.c1Active x && j.val == c1Bit x)) := by
  unfold Via.trailC1
  cases v.c1Active x with
  | false => rw [Bool.false_and, Bool.or_false]; rfl
  | true =>
    rw [if_pos rfl, Via.setPort_ifr, Bool.true_and]
    exact getLsbD_raiseFlag v.ifr (c1Bit x) j

/-! ### C2 (R453, R454) -/

/-- The modes by number. -/
theorem c2Mode_cases (m : BitVec 3) : m = 0 ∨ m = 1 ∨ m = 2 ∨ m = 3 ∨ m = 4 ∨ m = 5 ∨ m = 6 ∨ m = 7 := by
  revert m; decide

/-- The edges that raise the C2 flag: falling in modes 0 and 1, rising in modes 2 and 3, none in an output mode. -/
theorem Via.c2Active_eq (v : Via) (x : PortSel) :
    v.c2Active x =
      ((v.c2Mode x == 0 || v.c2Mode x == 1) && (v.port x).oldC2 && !(v.port x).c2 ||
        (v.c2Mode x == 2 || v.c2Mode x == 3) && !(v.port x).oldC2 && (v.port x).c2) := by
  unfold Via.c2Active
  obtain h | h | h | h | h | h | h | h := c2Mode_cases (v.c2Mode x) <;> rw [h] <;> simp

/-- The port after the C2 rule: a pulse counts down in mode 5 only and raises C2 as it ends; modes 6 and 7 fix C2. -/
theorem Port.trailC2_eq (q : Port) (m : BitVec 3) :
    q.trailC2 m = { q with
      pulse := if m = 5 then q.pulse - 1 else 0
      c2 := if m = 5 ∧ q.pulse = 1 then true else if m = 6 then false else if m = 7 then true else q.c2 } := by
  obtain rfl | rfl | rfl | rfl | rfl | rfl | rfl | rfl := c2Mode_cases m
  case inr.inr.inr.inr.inr.inl =>
    obtain ⟨or, ddr, ext, p, latch, c1, c2, extC2, oldC1, oldC2, pulse⟩ := q
    match pulse with
    | 0 | 1 | n + 2 => rfl
  all_goals rfl

theorem Via.trailC2_ifr (v : Via) (x : PortSel) (j : Fin 7) :
    (v.trailC2 x).ifr.getLsbD j.val = (v.ifr.getLsbD j.val || (j.val == c2Bit x && v.c2Active x)) := by
  rw [Via.trailC2, Via.setPort_ifr]
  cases v.c2Active x with
  | false => rw [Bool.and_false, Bool.or_false]; rfl
  | true => rw [Bool.and_true]; exact getLsbD_raiseFlag v.ifr (c2Bit x) j

theorem Via.trailC2_eq (v : Via) (x : PortSel) :
    v.trailC2 x = ({ v with ifr := (v.trailC2 x).ifr } : Via).setPort x ((v.port x).trailC2 (v.c2Mode x)) := by
  cases x <;> rfl

/-- Settles O43: each rule is one update of its port and at most one flag raised. -/
theorem controlLines : Obligations.ControlLines := by
  intro v x q active
  have hactive : v.c1Active x = active := v.c1Active_eq x
  refine ⟨?_, fun j => ?_, ?_, fun j => ?_⟩
  · rw [← hactive]
    exact v.trailC1_eq x
  · rw [← hactive]
    exact v.trailC1_ifr x j
  · rw [← Port.trailC2_eq]
    exact v.trailC2_eq x
  · rw [v.trailC2_ifr x j, v.c2Active_eq]

end Sys2Proof.Machine
end

section
/-! PROOFS. What T1 and T2 have in common (R450, R456, R457) is a countdown, the `Timer` below; what a started one does is
proved once, by induction on the edges. -/

namespace Sys2Proof.Machine

/-! ### A timer by itself -/

/-- The countdown of T1 or of T2, with the flag it raises. -/
structure Timer where
  counter : Word
  latch : Word
  timeout : Bool
  pending : Bool
  reload : Bool
  flag : Bool

/-- The leading edge (R450): a timeout raises the flag if one is pending; `rearm` says whether another one is then. -/
def Timer.lead (rearm : Bool) (t : Timer) : Timer :=
  if t.timeout && t.pending then { t with flag := true, pending := rearm } else t

/-- The trailing edge (R456, R457): reload or count down; `reloads` says whether a timeout reloads. -/
def Timer.count (reloads : Bool) (t : Timer) : Timer :=
  if t.reload then { t with counter := t.latch, reload := false, timeout := false }
  else { t with counter := t.counter - 1, timeout := t.counter == 0, reload := reloads && t.counter == 0 }

/-- The edges of `Via.afterEdges`, on a timer. -/
def Timer.afterEdges (rearm reloads : Bool) : Nat → Timer → Timer
  | 0, t => t.count reloads
  | n + 1, t => ((Timer.afterEdges rearm reloads n t).lead rearm).count reloads

theorem Timer.lead_of_not_timeout {t : Timer} (rearm : Bool) (h : t.timeout = false) : t.lead rearm = t := by
  rw [Timer.lead, h, Bool.false_and]; rfl

theorem Timer.lead_of_not_pending {t : Timer} (rearm : Bool) (h : t.pending = false) : t.lead rearm = t := by
  rw [Timer.lead, h, Bool.and_false]; rfl

theorem Timer.lead_of_timeout {t : Timer} (rearm : Bool) (ht : t.timeout = true) (hp : t.pending = true) :
    t.lead rearm = { t with flag := true, pending := rearm } := by
  rw [Timer.lead, ht, hp]; rfl

theorem Timer.count_of_reload {t : Timer} (reloads : Bool) (h : t.reload = true) :
    t.count reloads = { t with counter := t.latch, reload := false, timeout := false } := by
  rw [Timer.count, if_pos h]

theorem Timer.count_of_not_reload {t : Timer} (reloads : Bool) (h : t.reload = false) :
    t.count reloads =
      { t with counter := t.counter - 1, timeout := t.counter == 0, reload := reloads && t.counter == 0 } := by
  rw [Timer.count, h]; rfl

/-! ### A started timer -/

theorem sub_ofNat_succ (w : Word) (k : Nat) : w - BitVec.ofNat 16 (k + 1) = w - BitVec.ofNat 16 k - 1 := by
  bv_omega

theorem sub_ofNat_toNat_succ (w : Word) : w - BitVec.ofNat 16 (w.toNat + 1) = 0xFFFF := by
  bv_omega

section
variable {t : Timer} {rearm reloads : Bool}

/-- From a start to the edge at which the counter is 0 the timer only counts. -/
theorem Timer.afterEdges_counting (h : t.reload = true) : ∀ k, k ≤ t.latch.toNat →
    t.afterEdges rearm reloads k =
      { t with counter := t.latch - BitVec.ofNat 16 k, reload := false, timeout := false }
  | 0, _ => by
    rw [Timer.afterEdges, Timer.count_of_reload reloads h]
    simp
  | k + 1, hk => by
    have hpos : (t.latch - BitVec.ofNat 16 k == 0) = false := by
      rw [beq_eq_false_iff_ne]
      intro hzero
      bv_omega
    rw [Timer.afterEdges, Timer.afterEdges_counting h k (by omega), Timer.lead_of_not_timeout rearm rfl,
      Timer.count_of_not_reload reloads rfl]
    simp only [hpos, Bool.and_false, sub_ofNat_succ]

/-- One edge later the counter has passed 0. -/
theorem Timer.afterEdges_timeout (h : t.reload = true) :
    t.afterEdges rearm reloads (t.latch.toNat + 1) =
      { t with counter := 0xFFFF, reload := reloads, timeout := true } := by
  have hzero : t.latch - BitVec.ofNat 16 t.latch.toNat = 0 := by simp
  rw [Timer.afterEdges, Timer.afterEdges_counting h _ (Nat.le_refl _), Timer.lead_of_not_timeout rearm rfl,
    Timer.count_of_not_reload reloads rfl]
  simp only [hzero, beq_self_eq_true, Bool.and_true]
  rfl

/-- The edge after that, when a timeout reloads the timer. -/
theorem Timer.afterEdges_reloaded (h : t.reload = true) (hp : t.pending = true) :
    t.afterEdges rearm true (t.latch.toNat + 2) =
      { t with counter := t.latch, reload := false, timeout := false, flag := true, pending := rearm } := by
  rw [Timer.afterEdges, Timer.afterEdges_timeout h, Timer.lead_of_timeout rearm rfl (by exact hp),
    Timer.count_of_reload true rfl]

/-- A timer that neither reloads nor is re-armed counts on with its flag set and nothing pending. -/
theorem Timer.afterEdges_spent (h : t.reload = true) (hp : t.pending = true) (m : Nat) :
    ∃ timeout, t.afterEdges false false (t.latch.toNat + 2 + m) =
      { t with
        counter := t.latch - BitVec.ofNat 16 (t.latch.toNat + 2 + m)
        reload := false, timeout := timeout, flag := true, pending := false } := by
  induction m with
  | zero =>
    rw [Nat.add_zero, Timer.afterEdges, Timer.afterEdges_timeout h, Timer.lead_of_timeout false rfl (by exact hp),
      Timer.count_of_not_reload false rfl, sub_ofNat_succ, sub_ofNat_toNat_succ]
    exact ⟨_, rfl⟩
  | succ m ih =>
    obtain ⟨timeout, ih⟩ := ih
    rw [← Nat.add_assoc, Timer.afterEdges, ih, Timer.lead_of_not_pending false rfl, Timer.count_of_not_reload false rfl,
      sub_ofNat_succ]
    exact ⟨_, rfl⟩

/-- A started timer of that kind, at every edge: the counter modulo 2^16, and when the flag is set and nothing pending. -/
theorem Timer.afterEdges_oneShot (h : t.reload = true) (hp : t.pending = true) (hf : t.flag = false) (k : Nat) :
    (t.afterEdges false false k).counter = t.latch - BitVec.ofNat 16 k ∧
      ((t.afterEdges false false k).flag = true ↔ t.latch.toNat + 2 ≤ k) ∧
      ((t.afterEdges false false k).pending = false ↔ t.latch.toNat + 2 ≤ k) := by
  obtain hk | rfl | hk : k ≤ t.latch.toNat ∨ k = t.latch.toNat + 1 ∨ t.latch.toNat + 2 ≤ k := by omega
  · have hlate : ¬ t.latch.toNat + 2 ≤ k := by omega
    simp [Timer.afterEdges_counting h k hk, hp, hf, hlate]
  · rw [Timer.afterEdges_timeout h]
    exact ⟨(sub_ofNat_toNat_succ t.latch).symm, by simp [hf], by simp [hp]⟩
  · obtain ⟨m, rfl⟩ := Nat.exists_eq_add_of_le hk
    obtain ⟨timeout, hspent⟩ := Timer.afterEdges_spent h hp m
    simp [hspent]

end

end Sys2Proof.Machine
end

section
/-! PROOFS. What the edges of a VIA are (R450 to R459): on its two timers those of a `Timer`, and what each edge leaves alone. -/

namespace Sys2Proof.Machine

/-! ### The timers of a VIA -/

/-- T1 as a timer. -/
def Via.timer1 (v : Via) : Timer :=
  { counter := v.t1, latch := mkWord v.t1lh v.t1ll, timeout := v.t1Timeout, pending := v.t1Pending
    reload := v.t1Reload, flag := v.ifr.getLsbD 6 }

/-- T2 as a timer. -/
def Via.timer2 (v : Via) : Timer :=
  { counter := v.t2, latch := mkWord v.t2lh v.t2ll, timeout := v.t2Timeout, pending := v.t2Pending
    reload := v.t2Reload, flag := v.ifr.getLsbD 5 }

/-! ### The leading edge -/

theorem Via.leadT1_eq (v : Via) :
    v.leadT1 = { v with
      ifr := v.leadT1.ifr, t1Pending := v.leadT1.t1Pending, b := { v.b with p := v.leadT1.b.p }
      t1Pb7 := v.t1Pb7 ^^ (v.t1Timeout && v.t1Pending) } := by
  unfold Via.leadT1
  cases v.t1Timeout && v.t1Pending <;> simp [Via.refreshB]

theorem Via.leadT2_eq (v : Via) :
    v.leadT2 = { v with ifr := v.leadT2.ifr, t2Pending := v.leadT2.t2Pending } := by
  unfold Via.leadT2
  split <;> rfl

/-- A timeout with a pending interrupt acts on T1 as on a timer; nothing else in R450's T1 part touches the timers. -/
theorem Via.leadT1_timer1 (v : Via) : v.leadT1.timer1 = v.timer1.lead (bit v.acr 6) := by
  have hflag : (setBit 7 v.ifr 6 true).getLsbD 6 = true := (getLsbD_raiseFlag v.ifr 6 6).trans (Bool.or_true _)
  unfold Via.leadT1 Timer.lead
  cases h : v.t1Timeout && v.t1Pending with
  | false => simp [Via.timer1, h]
  | true => simp only [Via.timer1, Via.refreshB, h, if_true, hflag]

theorem Via.leadT1_timer2 (v : Via) : v.leadT1.timer2 = v.timer2 := by
  have hflag : (setBit 7 v.ifr 6 true).getLsbD 5 = v.ifr.getLsbD 5 := (getLsbD_raiseFlag v.ifr 6 5).trans (Bool.or_false _)
  unfold Via.leadT1
  split
  · simp only [Via.timer2, Via.refreshB, hflag]
  · rfl

theorem Via.leadT2_timer2 (v : Via) : v.leadT2.timer2 = v.timer2.lead false := by
  have hflag : (setBit 7 v.ifr 5 true).getLsbD 5 = true := (getLsbD_raiseFlag v.ifr 5 5).trans (Bool.or_true _)
  unfold Via.leadT2 Timer.lead
  cases h : v.t2Timeout && v.t2Pending with
  | false => simp [Via.timer2, h]
  | true => simp only [Via.timer2, h, if_true, hflag]

theorem Via.leadT2_timer1 (v : Via) : v.leadT2.timer1 = v.timer1 := by
  have hflag : (setBit 7 v.ifr 5 true).getLsbD 6 = v.ifr.getLsbD 6 := (getLsbD_raiseFlag v.ifr 5 6).trans (Bool.or_false _)
  unfold Via.leadT2
  split
  · simp only [Via.timer1, hflag]
  · rfl

theorem Via.leadingEdge_timer1 (v : Via) : v.leadingEdge.timer1 = v.timer1.lead (bit v.acr 6) :=
  v.leadT1.leadT2_timer1.trans v.leadT1_timer1

theorem Via.leadingEdge_timer2 (v : Via) : v.leadingEdge.timer2 = v.timer2.lead false :=
  v.leadT1.leadT2_timer2.trans (congrArg (Timer.lead false) v.leadT1_timer2)

/-- What R450 and R451 do beside the timers' own fields and the returned mask (R402): PB7's level, the pins, the sampling
of PB6. -/
theorem Via.leadingEdge_eq (v : Via) :
    v.leadingEdge = { v with
      ifr := v.leadingEdge.ifr, irqMask := v.leadingEdge.irqMask
      t1Pending := v.leadingEdge.t1Pending, t2Pending := v.leadingEdge.t2Pending
      t1Pb7 := v.t1Pb7 ^^ (v.t1Timeout && v.t1Pending)
      b := { v.b with p := v.leadT1.b.p }
      t2Count := v.t2Count || (bit v.acr 5 && v.oldPb6 && !bit v.leadT1.b.p 6)
      oldPb6 := bit v.leadT1.b.p 6 } := by
  unfold Via.leadingEdge
  rw [Via.leadT2_eq, Via.leadT1_eq]
  rfl

/-! ### The trailing edge -/

/-- The trailing edge up to the shadows of the control lines (R452 to R455), before the timers count. -/
def Via.trailLines (v : Via) : Via := ((((v.trailC1 .a).trailC1 .b).trailC2 .a).trailC2 .b).trailShadow

theorem Via.trailingEdge_phases (v : Via) : v.trailingEdge = v.trailLines.trailT1.trailT2.returnMask := rfl

/-- The control lines' rules change their ports and the flags alone, and no pin of port B. -/
theorem Via.trailLines_eq (v : Via) :
    v.trailLines = { v with
      ifr := v.trailLines.ifr, a := v.trailLines.a, b := { v.trailLines.b with p := v.b.p } } := by
  unfold Via.trailLines
  rw [Via.trailC2_eq _ .b, Via.trailC2_eq _ .a, Via.trailC1_eq _ .b, Via.trailC1_eq _ .a]
  simp only [Via.setPort, Via.port, Via.trailShadow, Port.trailC2_eq]

/-- The control lines' rules raise no timer's flag. -/
theorem Via.trailLines_timerFlag (v : Via) {j : Fin 7} (hj : j = 5 ∨ j = 6) :
    v.trailLines.ifr.getLsbD j.val = v.ifr.getLsbD j.val := by
  have hc1 (x : PortSel) : (j.val == c1Bit x) = false := by
    obtain rfl | rfl := hj <;> cases x <;> rfl
  have hc2 (x : PortSel) : (j.val == c2Bit x) = false := by
    obtain rfl | rfl := hj <;> cases x <;> rfl
  change ((((v.trailC1 .a).trailC1 .b).trailC2 .a).trailC2 .b).ifr.getLsbD j.val = _
  simp only [Via.trailC2_ifr, Via.trailC1_ifr, hc1, hc2, Bool.and_false, Bool.false_and, Bool.or_false]

theorem Via.trailLines_timer1 (v : Via) : v.trailLines.timer1 = v.timer1 := by
  have hflag : v.trailLines.ifr.getLsbD 6 = v.ifr.getLsbD 6 := v.trailLines_timerFlag (.inr rfl)
  rw [Via.timer1, hflag, Via.trailLines_eq]
  rfl

theorem Via.trailLines_timer2 (v : Via) : v.trailLines.timer2 = v.timer2 := by
  have hflag : v.trailLines.ifr.getLsbD 5 = v.ifr.getLsbD 5 := v.trailLines_timerFlag (.inl rfl)
  rw [Via.timer2, hflag, Via.trailLines_eq]
  rfl

theorem Via.trailT1_timer1 (v : Via) : v.trailT1.timer1 = v.timer1.count true := by
  unfold Via.trailT1 Timer.count
  cases h : v.t1Reload <;> simp [Via.timer1, h]

theorem Via.trailT1_eq (v : Via) :
    v.trailT1 = { v with t1 := v.trailT1.t1, t1Reload := v.trailT1.t1Reload, t1Timeout := v.trailT1.t1Timeout } := by
  unfold Via.trailT1
  split <;> rfl

theorem Via.trailT2_eq (v : Via) :
    v.trailT2 = { v with
      t2 := v.trailT2.t2, t2Reload := v.trailT2.t2Reload, t2Timeout := v.trailT2.t2Timeout
      t2Count := v.t2Reload && v.t2Count } := by
  unfold Via.trailT2
  cases v.t2Reload with
  | true => simp
  | false => cases bit v.acr 5 <;> cases v.t2Count <;> rfl

/-- T2 as a timer: it counts on every edge while ACR bit 5 is 0, on noted ones while it is 1, and reloads in any case. -/
theorem Via.trailT2_timer2 (v : Via) :
    v.trailT2.timer2 =
      if v.t2Reload || !bit v.acr 5 || v.t2Count then v.timer2.count false else { v.timer2 with timeout := false } := by
  unfold Via.trailT2 Timer.count
  cases h : v.t2Reload <;> cases hcount : !bit v.acr 5 || v.t2Count <;> simp [Via.timer2, h, hcount]

theorem Via.trailingEdge_timer1 (v : Via) : v.trailingEdge.timer1 = v.timer1.count true := by
  have hkeep : v.trailingEdge.timer1 = v.trailLines.trailT1.timer1 := by
    rw [Via.trailingEdge_phases, Via.trailT2_eq]; rfl
  rw [hkeep, Via.trailT1_timer1, Via.trailLines_timer1]

theorem Via.trailingEdge_timer2 (v : Via) :
    v.trailingEdge.timer2 =
      if v.t2Reload || !bit v.acr 5 || v.t2Count then v.timer2.count false else { v.timer2 with timeout := false } := by
  have hcount : v.trailingEdge.timer2 = v.trailLines.trailT1.trailT2.timer2 := rfl
  have hkeep : v.trailLines.trailT1.timer2 = v.trailLines.timer2 := by rw [Via.trailT1_eq]; rfl
  rw [hcount, Via.trailT2_timer2, hkeep, Via.trailLines_timer2, Via.trailT1_eq, Via.trailLines_eq]

theorem Via.trailingEdge_eq (v : Via) :
    v.trailingEdge = { v with
      ifr := v.trailingEdge.ifr, irqMask := v.trailingEdge.irqMask
      t1 := v.trailingEdge.t1, t1Reload := v.trailingEdge.t1Reload, t1Timeout := v.trailingEdge.t1Timeout
      t2 := v.trailingEdge.t2, t2Reload := v.trailingEdge.t2Reload, t2Timeout := v.trailingEdge.t2Timeout
      t2Count := v.t2Reload && v.t2Count
      a := v.trailingEdge.a, b := { v.trailingEdge.b with p := v.b.p } } := by
  rw [Via.trailingEdge_phases, Via.trailT2_eq, Via.trailT1_eq, Via.trailLines_eq]
  rfl

/-! ### Runs of whole cycles (R401) -/

theorem Via.leadingEdge_acr (v : Via) : v.leadingEdge.acr = v.acr := by rw [Via.leadingEdge_eq]

theorem Via.trailingEdge_acr (v : Via) : v.trailingEdge.acr = v.acr := by rw [Via.trailingEdge_eq]

theorem Via.afterEdges_acr (v : Via) (k : Nat) : (Via.afterEdges k v).acr = v.acr := by
  induction k with
  | zero => exact v.trailingEdge_acr
  | succ k ih => rw [Via.afterEdges, Via.trailingEdge_acr, Via.leadingEdge_acr, ih]

/-- On T1 the edges of a VIA act as those of a timer that reloads. -/
theorem Via.afterEdges_timer1 (v : Via) (k : Nat) :
    (Via.afterEdges k v).timer1 = v.timer1.afterEdges (bit v.acr 6) true k := by
  induction k with
  | zero => exact v.trailingEdge_timer1
  | succ k ih =>
    rw [Via.afterEdges, Via.trailingEdge_timer1, Via.leadingEdge_timer1, Via.afterEdges_acr, ih, Timer.afterEdges]

/-- While T2 counts cycles, the edges of a VIA act on it as those of a timer that neither reloads nor is re-armed. -/
theorem Via.afterEdges_timer2 {v : Via} (h : bit v.acr 5 = false) (k : Nat) :
    (Via.afterEdges k v).timer2 = v.timer2.afterEdges false false k := by
  have hcycles (u : Via) (hu : bit u.acr 5 = false) : u.trailingEdge.timer2 = u.timer2.count false := by
    rw [Via.trailingEdge_timer2, hu, Bool.not_false, Bool.or_true, Bool.true_or, if_pos rfl]
  induction k with
  | zero => exact hcycles v h
  | succ k ih =>
    have hacr : bit (Via.afterEdges k v).leadingEdge.acr 5 = false := by
      rw [Via.leadingEdge_acr, Via.afterEdges_acr, h]
    rw [Via.afterEdges, hcycles _ hacr, Via.leadingEdge_timer2, ih, Timer.afterEdges]

end Sys2Proof.Machine
end

section
/-! PROOFS. The timing of T1 and T2 after a start (O41, O42): the countdown of a `Timer`, with PB7's level for T1 and the two
modes of T2. -/

namespace Sys2Proof.Machine

/-! ### PB7 (R404, R450) -/

/-- While ACR bit 7 is set, pin PB7 shows T1's level. -/
def Via.Pb7Shown (v : Via) : Prop := bit v.acr 7 = true → bit v.b.p 7 = v.t1Pb7

theorem Via.refreshB_pb7Shown (v : Via) : v.refreshB.Pb7Shown :=
  fun hacr => (v.bit_refreshB 7).trans (if_pos ⟨rfl, hacr⟩)

theorem Via.leadT1_pb7Shown {v : Via} (h : v.Pb7Shown) : v.leadT1.Pb7Shown := by
  unfold Via.leadT1
  split
  · exact Via.refreshB_pb7Shown _
  · exact h

theorem Via.leadingEdge_pb7Shown {v : Via} (h : v.Pb7Shown) : v.leadingEdge.Pb7Shown := by
  have hlead := Via.leadT1_pb7Shown h
  rw [Via.Pb7Shown, Via.leadT1_eq] at hlead
  rw [Via.Pb7Shown, Via.leadingEdge_eq]
  exact hlead

theorem Via.trailingEdge_pb7Shown {v : Via} (h : v.Pb7Shown) : v.trailingEdge.Pb7Shown := by
  rw [Via.Pb7Shown, Via.trailingEdge_eq]
  exact h

theorem Via.afterEdges_pb7Shown {v : Via} (h : v.Pb7Shown) (k : Nat) : (Via.afterEdges k v).Pb7Shown := by
  induction k with
  | zero => exact Via.trailingEdge_pb7Shown h
  | succ k ih => exact Via.trailingEdge_pb7Shown (Via.leadingEdge_pb7Shown ih)

theorem Via.leadingEdge_t1Pb7 (v : Via) :
    v.leadingEdge.t1Pb7 = (v.t1Pb7 ^^ (v.t1Timeout && v.t1Pending)) := by rw [Via.leadingEdge_eq]

theorem Via.trailingEdge_t1Pb7 (v : Via) : v.trailingEdge.t1Pb7 = v.t1Pb7 := by rw [Via.trailingEdge_eq]

/-! ### T1 after a start (R423, R456) -/

/-- T1 as a start leaves it: the counter still the old one, to be reloaded. -/
def Via.startedT1 (d : Byte) (v : Via) : Timer :=
  { counter := v.t1, latch := mkWord d v.t1ll, timeout := v.t1Timeout, pending := true, reload := true
    flag := (v.writeT1ch d).ifr.getLsbD 6 }

theorem Via.writeT1ch_timer1 (d : Byte) (v : Via) : (v.writeT1ch d).timer1 = v.startedT1 d := by
  rw [Via.timer1, Via.startedT1, Via.writeT1ch_eq]

theorem Via.writeT1ch_t1Pb7 (d : Byte) (v : Via) : (v.writeT1ch d).t1Pb7 = false := by rw [Via.writeT1ch_eq]

theorem Via.writeT1ch_acr (d : Byte) (v : Via) : (v.writeT1ch d).acr = v.acr := by rw [Via.writeT1ch_eq]

theorem Via.writeT1ch_pb7Shown (d : Byte) (v : Via) : (v.writeT1ch d).Pb7Shown := by
  have hpins := Via.refreshB_pb7Shown { v with t1Pb7 := false }
  rw [Via.Pb7Shown, Via.writeT1ch_eq]
  exact hpins

section
variable (v : Via) (d : Byte)

/-- From the start to the edge at which the counter is 0. -/
theorem Via.t1_counting {k : Nat} (hk : k ≤ (mkWord d v.t1ll).toNat) :
    (Via.afterEdges k (v.writeT1ch d)).timer1 =
      { v.startedT1 d with
        counter := mkWord d v.t1ll - BitVec.ofNat 16 k, reload := false, timeout := false } := by
  rw [Via.afterEdges_timer1, Via.writeT1ch_timer1]
  exact Timer.afterEdges_counting (t := v.startedT1 d) rfl k hk

/-- At the timeout. -/
theorem Via.t1_timeout :
    (Via.afterEdges ((mkWord d v.t1ll).toNat + 1) (v.writeT1ch d)).timer1 =
      { v.startedT1 d with counter := 0xFFFF, reload := true, timeout := true } := by
  rw [Via.afterEdges_timer1, Via.writeT1ch_timer1]
  exact Timer.afterEdges_timeout (t := v.startedT1 d) rfl

/-- At the edge that reloads the counter. -/
theorem Via.t1_reloaded :
    (Via.afterEdges ((mkWord d v.t1ll).toNat + 2) (v.writeT1ch d)).timer1 =
      { v.startedT1 d with
        counter := mkWord d v.t1ll, reload := false, timeout := false, flag := true, pending := bit v.acr 6 } := by
  rw [Via.afterEdges_timer1, Via.writeT1ch_timer1, Via.writeT1ch_acr]
  exact Timer.afterEdges_reloaded (t := v.startedT1 d) rfl rfl

/-- T1's level is low as long as no leading edge has seen the timeout. -/
theorem Via.t1Pb7_low {k : Nat} (hk : k ≤ (mkWord d v.t1ll).toNat + 1) :
    (Via.afterEdges k (v.writeT1ch d)).t1Pb7 = false := by
  induction k with
  | zero => exact (Via.trailingEdge_t1Pb7 _).trans (v.writeT1ch_t1Pb7 d)
  | succ k ih =>
    have hcounting := v.t1_counting d (Nat.le_of_succ_le_succ hk)
    have htimeout : (Via.afterEdges k (v.writeT1ch d)).t1Timeout = false := congrArg Timer.timeout hcounting
    rw [Via.afterEdges, Via.trailingEdge_t1Pb7, Via.leadingEdge_t1Pb7, ih (by omega), htimeout]
    rfl

/-- The leading edge that sees the timeout toggles it. -/
theorem Via.t1Pb7_toggled :
    (Via.afterEdges ((mkWord d v.t1ll).toNat + 1) (v.writeT1ch d)).leadingEdge.t1Pb7 = true := by
  have htimeout := congrArg Timer.timeout (v.t1_timeout d)
  have hpending := congrArg Timer.pending (v.t1_timeout d)
  simp only [Via.timer1] at htimeout hpending
  rw [Via.leadingEdge_t1Pb7, v.t1Pb7_low d (Nat.le_refl _), htimeout, hpending]
  rfl

end

/-- Settles O41: the countdown as a timer's, and PB7's level with the pin that shows it. -/
theorem t1Timing : Obligations.T1Timing := by
  intro v d w n late
  have hcounting {k : Nat} (hk : k ≤ n.toNat) := v.t1_counting d hk
  have htimeout := v.t1_timeout d
  have hreloaded := v.t1_reloaded d
  have hlate : late.timer1 = (Via.afterEdges (n.toNat + 1) w).timer1.lead _ := Via.leadingEdge_timer1 _
  rw [htimeout] at hlate
  have hacr (k : Nat) : (Via.afterEdges k w).acr = v.acr := (w.afterEdges_acr k).trans (v.writeT1ch_acr d)
  have hshown (k : Nat) : (Via.afterEdges k w).Pb7Shown := Via.afterEdges_pb7Shown (v.writeT1ch_pb7Shown d) k
  have hlow {k : Nat} (hk : k ≤ n.toNat + 1) : (Via.afterEdges k w).t1Pb7 = false := v.t1Pb7_low d hk
  have hhigh : late.t1Pb7 = true := v.t1Pb7_toggled d
  have hend : (Via.afterEdges (n.toNat + 2) w).t1Pb7 = true := (Via.trailingEdge_t1Pb7 late).trans hhigh
  refine ⟨fun k hk => ⟨?_, congrArg Timer.timeout (hcounting hk), congrArg Timer.flag (hcounting hk)⟩,
    congrArg Timer.counter htimeout, congrArg Timer.timeout htimeout, congrArg Timer.flag htimeout,
    congrArg Timer.flag hlate, congrArg Timer.counter hreloaded, congrArg Timer.timeout hreloaded,
    congrArg Timer.pending hreloaded, v.writeT1ch_t1Pb7 d, fun h => ?_, fun k hk => ⟨hlow hk, fun h => ?_⟩,
    hhigh, fun h => ?_, hend, fun h => ?_⟩
  · have hcounter : (Via.afterEdges k w).t1 = n - BitVec.ofNat 16 k := congrArg Timer.counter (hcounting hk)
    rw [hcounter]
    bv_omega
  · rw [v.writeT1ch_pb7Shown d (by rwa [v.writeT1ch_acr d]), v.writeT1ch_t1Pb7 d]
  · rw [hshown k (by rwa [hacr k]), hlow hk]
  · rw [Via.leadingEdge_pb7Shown (hshown _) (by rwa [Via.leadingEdge_acr, hacr]), hhigh]
  · rw [hshown _ (by rwa [hacr]), hend]

/-! ### T2 after a start (R430, R451, R457) -/

/-- T2 as a start leaves it. -/
def Via.startedT2 (d : Byte) (v : Via) : Timer :=
  { counter := v.t2, latch := mkWord d v.t2ll, timeout := v.t2Timeout, pending := true, reload := true, flag := false }

theorem Via.writeT2ch_timer2 (d : Byte) (v : Via) : (v.writeT2ch d).timer2 = v.startedT2 d := by
  have hflag : (v.writeT2ch d).ifr.getLsbD 5 = false := (getLsbD_clearFlag v.ifr 5 5).trans (Bool.and_false _)
  rw [Via.timer2, hflag]
  rfl

/-- A trailing edge that reloads T2, in either mode. -/
theorem Via.trailingEdge_timer2_of_reload {v : Via} (h : v.t2Reload = true) :
    v.trailingEdge.timer2 = { v.timer2 with counter := v.timer2.latch, reload := false, timeout := false } := by
  rw [Via.trailingEdge_timer2, h, Bool.true_or, Bool.true_or, if_pos rfl]
  exact Timer.count_of_reload false h

/-- A trailing edge without a reload while T2 counts edges of PB6: it counts down exactly when a count is noted. -/
theorem Via.trailingEdge_timer2_of_pb6 {v : Via} (hacr : bit v.acr 5 = true) (h : v.t2Reload = false) :
    v.trailingEdge.timer2 =
      { v.timer2 with
        counter := if v.t2Count then v.t2 - 1 else v.t2, timeout := v.t2Count && v.t2 == 0, reload := false } := by
  rw [Via.trailingEdge_timer2, h, hacr]
  cases v.t2Count with
  | false => simp [Via.timer2, h]
  | true => exact Timer.count_of_not_reload false h

/-- Settles O42: T2 in cycles as a timer's countdown, and in edges of PB6 one edge at a time. -/
theorem t2Timing : Obligations.T2Timing := by
  intro v d w n
  refine ⟨fun hacr k => ?_, fun hacr => ?_, fun htimeout hpending => ?_⟩
  · have hrun := Via.afterEdges_timer2 (v := w) hacr k
    have hshot := Timer.afterEdges_oneShot (t := v.startedT2 d) rfl rfl rfl k
    rwa [← v.writeT2ch_timer2 d, ← hrun] at hshot
  · have hload : w.trailingEdge.timer2 = _ := Via.trailingEdge_timer2_of_reload rfl
    have hpins : v.leadingEdge.b.p = v.leadT1.b.p := by rw [Via.leadingEdge_eq]
    refine ⟨congrArg Timer.counter hload, congrArg Timer.timeout hload, congrArg Timer.reload hload, ?_, rfl, ?_,
      fun hreload => ?_⟩
    · rw [Via.leadingEdge_eq]
    · rw [hpins, Via.leadingEdge_eq]
      simp [hacr]
    · have hedge := Via.trailingEdge_timer2_of_pb6 hacr hreload
      have htimeout : v.trailingEdge.t2Timeout = (v.t2Count && v.t2 == 0) := congrArg Timer.timeout hedge
      refine ⟨congrArg Timer.counter hedge, by simp [htimeout], ?_, congrArg Timer.reload hedge⟩
      rw [Via.trailingEdge_eq, hreload, Bool.false_and]
  · have hlead := v.leadingEdge_timer2
    rw [Timer.lead_of_timeout false htimeout hpending] at hlead
    exact ⟨congrArg Timer.flag hlead, congrArg Timer.pending hlead⟩

end Sys2Proof.Machine
end

section
/-! PROOFS. The FDC's register accesses and commands (O45 to O48): the bits of the status byte a read answers, which command
a byte is, and each command as an accepted controller that the spin-up gating sends on its way. -/

namespace Sys2Proof.Machine

/-! ### Reading the status (R486) -/

/-- The bits of the status byte a read answers. -/
theorem Fdc.bit_readStatus (cfg : Config) (f : Fdc) (k : Fin 8) :
    bit (f.readStatus cfg).1 k.val =
      if k.val = 7 then f.motor
      else if k.val = 6 then (if f.statusType1 then f.drive.writeProtected else bit f.status 6)
      else if k.val = 2 then (if f.statusType1 then f.drive.isTrack0 else bit f.status 2)
      else if k.val = 1 then (if f.statusType1 then f.indexNow cfg else f.drq)
      else bit f.status k.val := by
  unfold Fdc.readStatus
  cases f.statusType1 with
  | true => simp only [if_true, bit_setBit]; grind
  | false => simp only [Bool.false_eq_true, if_false, bit_setBit]; grind

/-- Settles O45: each access is its register function (by `rfl`), and the status byte is read bit by bit. -/
theorem fdcRegisters : Obligations.FdcRegisters := by
  intro v s f
  have hbit := f.bit_readStatus s.cfg
  exact ⟨⟨(f.readStatus s.cfg).1, rfl, hbit 7, hbit 6, hbit 5, hbit 4, hbit 3, hbit 2, hbit 1, hbit 0⟩,
    rfl, rfl, rfl, rfl, rfl, rfl⟩

/-! ### Force Interrupt (R525) -/

/-- The mask `$C6` keeps bits 7, 6, 2 and 1: it clears bits 5, 4, 3 and 0. -/
theorem bit_and_C6 (v : Byte) (k : Fin 8) :
    bit (v &&& 0xC6) k.val = (bit v k.val && (k.val == 1 || k.val == 2 || k.val == 6 || k.val == 7)) := by
  have hmask : ∀ k : Fin 8, bit 0xC6 k.val = (k.val == 1 || k.val == 2 || k.val == 6 || k.val == 7) := by decide
  rw [← hmask k]
  exact BitVec.getLsbD_and

theorem bit_clearBit (v : Byte) (i : Nat) (k : Fin 8) :
    bit (setBit 8 v i false) k.val = (bit v k.val && k.val != i) := by
  rw [bit_setBit]
  by_cases h : k.val = i <;> simp [h]

theorem bit_raiseBit (v : Byte) (i : Nat) (k : Fin 8) :
    bit (setBit 8 v i true) k.val = (bit v k.val || k.val == i) := by
  rw [bit_setBit]
  by_cases h : k.val = i <;> simp [h]

/-- Settles O48, by whether the controller is busy. -/
theorem forceInterrupt : Obligations.ForceInterrupt := by
  intro v s
  refine ⟨s.fdc.forceInt v, rfl, ?_⟩
  unfold Fdc.forceInt
  cases s.fdc.busy with
  | true => exact ⟨rfl, bit_clearBit s.fdc.status 0⟩
  | false => exact ⟨rfl, bit_and_C6 s.fdc.status⟩

/-! ### Which command a byte is (R166, R487) -/

theorem exec_decodeFdcCommand (v : Byte) (s : State) :
    exec (decodeFdcCommand v) s = fdcWriteAt 0 v (s.fdc.writeCommand s.cfg v) s := by
  unfold decodeFdcCommand Fdc.writeCommand
  generalize v.extractLsb' 4 4 = nibble
  obtain ⟨⟨k, hk⟩⟩ := nibble
  match k, hk with
  | 0, _ | 1, _ | 2, _ | 3, _ | 4, _ | 5, _ | 6, _ | 7, _ | 8, _ | 9, _ | 10, _ | 11, _ | 12, _ | 13, _ | 14, _ | 15, _ => rfl
  | k + 16, hk => exact absurd hk (by omega)

/-- What a command does before the spin-up gating leaves the latched command byte alone. -/
def KeepsCommand (prepare : Fdc → Fdc × FdcState) : Prop := ∀ g, (prepare g).1.command = g.command

theorem topNibble_toNat (v : Byte) : (v.extractLsb' 4 4).toNat = v.toNat / 16 := by
  have hlt : v.toNat < 256 := v.isLt
  simp only [BitVec.extractLsb'_toNat, Nat.shiftRight_eq_div_pow]
  omega

/-- A command byte below `$E0` starts a command or is Force Interrupt. -/
theorem Fdc.writeCommand_below_E0 {v : Byte} (hv : v.toNat < 0xE0) (cfg : Config) (f : Fdc) :
    (∃ prepare, KeepsCommand prepare ∧ f.writeCommand cfg v = .ok (f.startCommand cfg v prepare)) ∨
      (v.toNat / 16 = 0xD ∧ f.writeCommand cfg v = .ok (f.forceInt v)) := by
  have hn : v.toNat / 16 < 14 := by omega
  unfold Fdc.writeCommand
  rw [topNibble_toNat]
  generalize v.toNat / 16 = n at hn ⊢
  match n, hn with
  | 0, _ | 1, _ | 2, _ | 3, _ | 4, _ | 5, _ | 6, _ | 7, _ | 8, _ | 9, _ | 12, _ => exact .inl ⟨_, fun _ => rfl, rfl⟩
  | 10, _ | 11, _ =>
    refine .inl ⟨_, fun g => ?_, rfl⟩
    split <;> rfl
  | 13, _ => exact .inr ⟨rfl, rfl⟩

theorem Fdc.startCommand_busy {f : Fdc} (h : f.busy = true) (cfg : Config) (v : Byte) (prepare : Fdc → Fdc × FdcState) :
    f.startCommand cfg v prepare = f := if_pos h

theorem Fdc.startCommand_not_busy {f : Fdc} (h : f.busy = false) (cfg : Config) (v : Byte)
    (prepare : Fdc → Fdc × FdcState) :
    f.startCommand cfg v prepare = (prepare (f.acceptCommand v)).1.gateSpinUp cfg (prepare (f.acceptCommand v)).2 := by
  rw [Fdc.startCommand, h]
  rfl

/-- A busy controller ignores every byte but Force Interrupt's. -/
theorem Fdc.writeCommand_busy {v : Byte} {f : Fdc} (h : f.busy = true) (hv : v.toNat / 16 ≠ 0xD) (cfg : Config) :
    f.writeCommand cfg v = .ok f := by
  by_cases hlow : v.toNat < 0xE0
  · obtain ⟨prepare, _, hwrite⟩ | ⟨hforce, _⟩ := Fdc.writeCommand_below_E0 hlow cfg f
    · rw [hwrite, Fdc.startCommand_busy h]
    · exact absurd hforce hv
  · rw [Fdc.writeCommand_track (by omega), if_pos h]

/-! ### Acceptance and spin-up gating (R487, R495) -/

/-- With h = 0 and the motor off the command waits for the disc to come up to speed. -/
theorem Fdc.gateSpinUp_waits {f : Fdc} (hmotor : f.motor = false) (hh : bit f.command 3 = false) (cfg : Config)
    (first : FdcState) :
    f.gateSpinUp cfg first =
      { f with
        motor := true, drive := f.drive.spinUp, afterSpinup := first, state := .wait, nextState := .spinUp
        waitUs := cfg.fdcSpinupPulses * cfg.fdcIndexPeriodUs } := by
  rw [Fdc.gateSpinUp, hmotor, hh]
  rfl

/-- Otherwise it starts at once. -/
theorem Fdc.gateSpinUp_starts {f : Fdc} (h : ¬ (f.motor = false ∧ bit f.command 3 = false)) (cfg : Config)
    (first : FdcState) :
    f.gateSpinUp cfg first =
      { f with
        motor := true, drive := if f.motor then f.drive else f.drive.spinUp, state := first
        status := setBit 8 f.status 5 true } := by
  unfold Fdc.gateSpinUp
  cases hmotor : f.motor with
  | true => simp [Fdc.setStatus, hmotor]
  | false => simp_all [Fdc.setStatus]

theorem Fdc.gateSpinUp_command (cfg : Config) (first : FdcState) (f : Fdc) :
    (f.gateSpinUp cfg first).command = f.command := by
  by_cases h : f.motor = false ∧ bit f.command 3 = false
  · rw [Fdc.gateSpinUp_waits h.1 h.2]
  · rw [Fdc.gateSpinUp_starts h]

/-- Accepting a command latches it, clears the pins and the index interrupt, and chooses the layout by bit 7. -/
theorem Fdc.acceptCommand_eq (v : Byte) (f : Fdc) :
    f.acceptCommand v =
      { f with
        command := v, intrq := false, drq := false, idlePulses := 0, irqOnIndex := false, statusType1 := !bit v 7
        status := (f.acceptCommand v).status } := by
  unfold Fdc.acceptCommand
  cases bit v 7 <;> rfl

/-- Bit 0 is busy; a Type I command keeps bits 7, 6, 2 and 1. -/
theorem Fdc.bit_acceptCommand (v : Byte) (f : Fdc) (k : Fin 8) :
    bit (f.acceptCommand v).status k.val =
      (k.val == 0 || !bit v 7 && bit (f.status &&& 0xC6) k.val) := by
  have hone : ∀ k : Fin 8, bit 0x01 k.val = (k.val == 0) := by decide
  unfold Fdc.acceptCommand
  cases bit v 7 with
  | true => simpa using hone k
  | false =>
    rw [← hone k, Bool.or_comm]
    exact BitVec.getLsbD_or

theorem Fdc.writeCommand_not_busy {v : Byte} {f : Fdc} (h : f.busy = false) (hv : v.toNat < 0xE0) (cfg : Config) :
    ∃ g, f.writeCommand cfg v = .ok g ∧ g.command = v := by
  obtain ⟨prepare, hkeeps, hwrite⟩ | ⟨_, hwrite⟩ := Fdc.writeCommand_below_E0 hv cfg f
  · refine ⟨_, hwrite, ?_⟩
    rw [Fdc.startCommand_not_busy h, Fdc.gateSpinUp_command, hkeeps, Fdc.acceptCommand_eq]
  · refine ⟨_, hwrite, ?_⟩
    rw [Fdc.forceInt, h]
    rfl

/-- Settles O47: the command register's write is the decoded command, and what it answers follows from whether the
controller is busy and whether the byte is below `$E0`. -/
theorem fdcCommandWrite : Obligations.FdcCommandWrite := by
  intro v s
  have hexec : exec (.fdcWriteCommand v) s = fdcWriteAt 0 v (s.fdc.writeCommand s.cfg v) s := rfl
  have hreadTrack : exec (.fdcCmdReadTrack v) s = fdcWriteAt 0 v (s.fdc.readTrackCmd v) s := rfl
  have hwriteTrack : exec (.fdcCmdWriteTrack v) s = fdcWriteAt 0 v (s.fdc.writeTrackCmd v) s := rfl
  refine ⟨(exec_decodeFdcCommand v s).symm, fun hv hidle => ?_, fun hv => ?_, fun hbusy hv => ?_, fun hidle => ?_,
    fun hbusy => ?_⟩
  · obtain ⟨g, hwrite, hcommand⟩ := Fdc.writeCommand_not_busy hidle hv s.cfg
    rw [hexec, hwrite]
    exact ⟨_, rfl, hcommand, rfl, rfl⟩
  · obtain ⟨g, hwrite⟩ := s.fdc.writeCommand_ok s.cfg v hv
    rw [hexec, hwrite]
    exact ⟨_, rfl⟩
  · rw [hexec, Fdc.writeCommand_busy hbusy hv]
    rfl
  · rw [hreadTrack, hwriteTrack, Fdc.readTrackCmd, Fdc.writeTrackCmd, hidle]
    exact ⟨rfl, rfl⟩
  · rw [hreadTrack, hwriteTrack, Fdc.readTrackCmd, Fdc.writeTrackCmd, hbusy]
    exact ⟨rfl, rfl⟩

/-! ### The commands that start (R500 to R512, R520) -/

/-- `p` is the controller `f` after it has accepted the command `v`, up to what the commands do differently: the step
direction, the count of Restore's steps and status bit 6. -/
structure Fdc.Accepted (v : Byte) (f p : Fdc) : Prop where
  eq : ∃ dir count status, p = { f with
    command := v, intrq := false, drq := false, idlePulses := 0, irqOnIndex := false, statusType1 := !bit v 7
    dir := dir, restoreCount := count, status := status }
  busy : p.busy = true
  cleared : ∀ k : Fin 8, k.val = 3 ∨ k.val = 4 ∨ k.val = 5 → bit p.status k.val = false

theorem Fdc.accepted_acceptCommand (v : Byte) (f : Fdc) (dir : Bool) (count : Byte) :
    f.Accepted v { f.acceptCommand v with dir := dir, restoreCount := count } where
  eq := by
    rw [Fdc.acceptCommand_eq]
    exact ⟨_, _, _, rfl⟩
  busy := f.bit_acceptCommand v 0
  cleared k hk := by
    rw [Fdc.bit_acceptCommand, bit_and_C6]
    rcases hk with hk | hk | hk <;> simp [hk]

theorem Fdc.Accepted.setStatus_6 {v : Byte} {f p : Fdc} (h : f.Accepted v p) (b : Bool) :
    f.Accepted v (p.setStatus 6 b) where
  eq := by
    obtain ⟨dir, count, status, rfl⟩ := h.eq
    exact ⟨_, _, _, rfl⟩
  busy := (bit_setBit p.status 6 b 0).trans h.busy
  cleared k hk := by
    have hne : k.val ≠ 6 := by omega
    rw [← h.cleared k hk]
    exact (bit_setBit p.status 6 b k).trans (if_neg hne)

/-- The fixed bits of a command byte (R166). -/
theorem bit_of_commandMatches {mask fixed v : Byte} (h : commandMatches mask fixed v = true) (k : Nat)
    (hk : bit mask k = true) : bit v k = bit fixed k := by
  have hand : bit (v &&& mask) k = (bit v k && bit mask k) := BitVec.getLsbD_and
  rw [← eq_of_beq h, hand, hk, Bool.and_true]

/-- Status bit 6 after the acceptance: kept by a Type I command, cleared by the others. -/
theorem Fdc.bit_6_acceptCommand (v : Byte) (f : Fdc) :
    bit (f.acceptCommand v).status 6 = (!bit v 7 && bit f.status 6) := by
  have hkept : bit (f.status &&& 0xC6) 6 = (bit f.status 6 && true) := bit_and_C6 f.status 6
  have hbit : bit (f.acceptCommand v).status 6 = (false || !bit v 7 && bit (f.status &&& 0xC6) 6) :=
    f.bit_acceptCommand v 6
  rw [hbit, hkept, Bool.and_true, Bool.false_or]

/-- What each command does between its acceptance and the spin-up gating, and the state it starts in. -/
def commandPrepare (i : Instr) (g : Fdc) : Fdc × FdcState :=
  match i with
  | .fdcCmdRestore _ => ({ g with restoreCount := 0 }, .restoreCheck)
  | .fdcCmdSeek _ => (g, .seekCheck)
  | .fdcCmdStepIn _ => ({ g with dir := true }, .stepOnce)
  | .fdcCmdStepOut _ => ({ g with dir := false }, .stepOnce)
  | .fdcCmdStep _ => (g, .stepOnce)
  | .fdcCmdWriteSector _ =>
    if g.drive.writeProtected then (g.setStatus 6 true, .finish) else (g, .typeIISettle)
  | _ => (g, .typeIISettle)

theorem exec_command {i : Instr} {v : Byte} {s : State} (hv : commandByte i = some v) :
    exec i s = .next (fdcAccessed 0 v false (s.fdc.startCommand s.cfg v (commandPrepare i)) s) := by
  cases i with
  | fdcCmdRestore w | fdcCmdSeek w | fdcCmdStep w | fdcCmdStepIn w | fdcCmdStepOut w | fdcCmdReadSector w
  | fdcCmdWriteSector w | fdcCmdReadAddress w =>
    cases hv
    rfl
  | _ => cases hv

/-- The step direction once a command is accepted: Step-In and Step-Out set it (R503, R504). -/
def dirOnStart (f : Fdc) (i : Instr) : Bool :=
  match i with
  | .fdcCmdStepIn _ => true
  | .fdcCmdStepOut _ => false
  | _ => f.dir

/-- Status bit 6 once a command is accepted: the Type II and III commands write it (R510, R511, R520). -/
def bit6OnStart (f : Fdc) (i : Instr) : Bool :=
  match i with
  | .fdcCmdWriteSector _ => f.drive.writeProtected
  | .fdcCmdReadSector _ => false
  | .fdcCmdReadAddress _ => false
  | _ => bit f.status 6

/-- What the gating is handed: an accepted controller and the command's first state. -/
theorem commandPrepare_acceptCommand {i : Instr} {v : Byte} {first : FdcState} {f : Fdc} (hwf : i.WellFormed)
    (hv : commandByte i = some v) (hfirst : firstState i f.drive.writeProtected = some first) :
    ∃ p, commandPrepare i (f.acceptCommand v) = (p, first) ∧ f.Accepted v p ∧ p.dir = dirOnStart f i ∧
      (i = .fdcCmdRestore v → p.restoreCount = 0) ∧ bit p.status 6 = bit6OnStart f i := by
  have hbit6 := f.bit_6_acceptCommand v
  have hdir : (f.acceptCommand v).dir = f.dir := by rw [Fdc.acceptCommand_eq]
  have hdrive : (f.acceptCommand v).drive = f.drive := by rw [Fdc.acceptCommand_eq]
  have haccepted := f.accepted_acceptCommand v
  generalize f.acceptCommand v = g at *
  cases i with
  | fdcCmdRestore w =>
    cases hv
    cases hfirst
    rw [show bit v 7 = false from bit_of_commandMatches hwf 7 rfl] at hbit6
    exact ⟨_, rfl, haccepted _ _, hdir, fun _ => rfl, hbit6⟩
  | fdcCmdStepIn w | fdcCmdStepOut w =>
    cases hv
    cases hfirst
    rw [show bit v 7 = false from bit_of_commandMatches hwf 7 rfl] at hbit6
    exact ⟨_, rfl, haccepted _ _, rfl, nofun, hbit6⟩
  | fdcCmdSeek w | fdcCmdStep w =>
    cases hv
    cases hfirst
    rw [show bit v 7 = false from bit_of_commandMatches hwf 7 rfl] at hbit6
    exact ⟨g, rfl, haccepted _ _, hdir, nofun, hbit6⟩
  | fdcCmdReadSector w | fdcCmdReadAddress w =>
    cases hv
    cases hfirst
    rw [show bit v 7 = true from bit_of_commandMatches hwf 7 rfl] at hbit6
    exact ⟨g, rfl, haccepted _ _, hdir, nofun, hbit6⟩
  | fdcCmdWriteSector w =>
    cases hv
    rw [show bit v 7 = true from bit_of_commandMatches hwf 7 rfl] at hbit6
    simp only [commandPrepare, hdrive, bit6OnStart]
    cases hprotected : f.drive.writeProtected with
    | true =>
      rw [hprotected] at hfirst
      cases hfirst
      exact ⟨_, rfl, (haccepted _ _).setStatus_6 true, hdir, nofun, bit_setBit g.status 6 true 6⟩
    | false =>
      rw [hprotected] at hfirst
      cases hfirst
      exact ⟨g, rfl, haccepted _ _, hdir, nofun, hbit6⟩
  | _ => cases hv

/-- Settles O46: the gating takes its waiting branch or its starting branch, and both leave an accepted controller's other
fields alone. -/
theorem fdcCommandStarts : Obligations.FdcCommandStarts := by
  intro i v first s hwf hv hfirst hidle
  obtain ⟨p, hprepare, ⟨⟨dir, count, status, rfl⟩, hbusy, hcleared⟩, hdir, hrestore, hbit6⟩ :=
    commandPrepare_acceptCommand hwf hv hfirst
  refine ⟨Fdc.gateSpinUp s.cfg first _, by rw [exec_command hv, Fdc.startCommand_not_busy hidle, hprepare], ?_⟩
  have h3 : bit status 3 = false := hcleared 3 (by decide)
  have h4 : bit status 4 = false := hcleared 4 (by decide)
  by_cases hwaits : s.fdc.motor = false ∧ bit v 3 = false
  · have h5 : bit status 5 = false := hcleared 5 (by decide)
    rw [Fdc.gateSpinUp_waits (by exact hwaits.1) (by exact hwaits.2), if_pos hwaits, hwaits.1]
    exact ⟨rfl, hbusy, rfl, rfl, rfl, rfl, rfl, h4, h3, rfl, rfl, ⟨rfl, rfl, rfl, h5, rfl⟩, rfl, rfl, rfl, hdir,
      hrestore, hbit6⟩
  · have hraise := bit_setBit status 5 true
    rw [Fdc.gateSpinUp_starts (by exact hwaits), if_neg hwaits]
    exact ⟨rfl, (hraise 0).trans hbusy, rfl, rfl, rfl, rfl, rfl, (hraise 4).trans h4, (hraise 3).trans h3, rfl, rfl,
      ⟨rfl, hraise 5⟩, rfl, rfl, rfl, hdir, hrestore, (hraise 6).trans hbit6⟩

end Sys2Proof.Machine
end

section
/-! PROOFS. Time in the controller (R481 to R483): a controller that is not idle does the same whatever the index position
and INTRQ are, so that its updates can be followed without them; then what a wait is (O49). -/

namespace Sys2Proof.Machine

/-! ### The index position and INTRQ (R482) -/

/-- `f` with the index position at `u`, and INTRQ raised if `q`: what time alone changes in a controller that is not idle. -/
def Fdc.ticked (u : Nat) (q : Bool) (f : Fdc) : Fdc := { f with indexUs := u, intrq := f.intrq || q }

theorem Fdc.ticked_false (f : Fdc) : f.ticked f.indexUs false = f := by
  rw [Fdc.ticked, Bool.or_false]

theorem Fdc.ticked_ticked (f : Fdc) (u u' : Nat) (q q' : Bool) :
    (f.ticked u q).ticked u' q' = f.ticked u' (q || q') := by
  simp only [Fdc.ticked, Bool.or_assoc]

/-- Out of `Idle` an index pulse counts nothing and stops no motor. -/
theorem Fdc.indexTick_of_not_idle {f : Fdc} (h : f.state ≠ .idle) (cfg : Config) :
    ∃ u q, f.indexTick cfg = f.ticked u q := by
  unfold Fdc.indexTick
  cases hmotor : f.motor with
  | false => exact ⟨_, _, f.ticked_false.symm⟩
  | true =>
    cases f.wraps cfg with
    | false => exact ⟨f.indexUs + cfg.fdcTickUs, false, by simp [Fdc.ticked, hmotor]⟩
    | true => exact ⟨(f.indexUs + cfg.fdcTickUs) % cfg.fdcIndexPeriodUs, f.irqOnIndex, by simp [Fdc.ticked, h, hmotor]⟩

/-! ### No state's action looks at them (R496 to R520) -/

theorem Fdc.noteLost_ticked (f : Fdc) (u : Nat) (q : Bool) : (f.ticked u q).noteLost = f.noteLost.ticked u q := by
  simp only [Fdc.noteLost, apply_ite (Fdc.ticked u q)]
  rfl

section
variable (cfg : Config) (f : Fdc) (u : Nat) (q : Bool)

theorem Fdc.runRestoreCheck_ticked : (f.ticked u q).runRestoreCheck cfg = (f.runRestoreCheck cfg).ticked u q := by
  simp only [Fdc.runRestoreCheck, apply_ite (Fdc.ticked u q)]
  rfl

theorem Fdc.runSeekStep_ticked : (f.ticked u q).runSeekStep cfg = (f.runSeekStep cfg).ticked u q := by
  simp only [Fdc.runSeekStep, apply_ite (Fdc.ticked u q)]
  rfl

theorem Fdc.runStepOnce_ticked : (f.ticked u q).runStepOnce cfg = (f.runStepOnce cfg).ticked u q := by
  have hdir : (f.ticked u q).dir = f.dir := rfl
  simp only [Fdc.runStepOnce, apply_ite (Fdc.ticked u q), hdir]
  cases f.dir <;> rfl

theorem Fdc.runTypeIVerify_ticked : (f.ticked u q).runTypeIVerify cfg = (f.runTypeIVerify cfg).ticked u q := by
  simp only [Fdc.runTypeIVerify, apply_ite (Fdc.ticked u q)]
  rfl

theorem Fdc.runTypeIISettle_ticked : (f.ticked u q).runTypeIISettle cfg = (f.runTypeIISettle cfg).ticked u q := by
  simp only [Fdc.runTypeIISettle, apply_ite (Fdc.ticked u q)]
  rfl

theorem Fdc.runTypeIIFind_ticked : (f.ticked u q).runTypeIIFind cfg = (f.runTypeIIFind cfg).ticked u q := by
  have hfind : (f.ticked u q).drive.find (f.ticked u q).sector (f.ticked u q).density =
      f.drive.find f.sector f.density := rfl
  unfold Fdc.runTypeIIFind
  rw [hfind]
  cases f.drive.find f.sector f.density with
  | none => rfl
  | some s =>
    simp only [apply_ite (Fdc.ticked u q)]
    rfl

theorem Fdc.runReadByte_ticked : (f.ticked u q).runReadByte cfg = (f.runReadByte cfg).ticked u q := by
  simp only [Fdc.runReadByte, Fdc.noteLost_ticked, apply_ite (Fdc.ticked u q)]
  rfl

theorem Fdc.runWriteByte_ticked : (f.ticked u q).runWriteByte cfg = (f.runWriteByte cfg).ticked u q := by
  simp only [Fdc.runWriteByte, Fdc.noteLost_ticked, apply_ite (Fdc.ticked u q)]
  rfl

theorem Fdc.runReadAddressByte_ticked :
    (f.ticked u q).runReadAddressByte cfg = (f.runReadAddressByte cfg).ticked u q := by
  simp only [Fdc.runReadAddressByte, Fdc.noteLost_ticked, apply_ite (Fdc.ticked u q)]
  rfl

theorem Fdc.runReadNextSector_ticked :
    (f.ticked u q).runReadNextSector cfg = (f.runReadNextSector cfg).ticked u q := by
  have hnext : (f.noteLost.ticked u q).nextSector = f.noteLost.nextSector := rfl
  have hcommand : (f.noteLost.ticked u q).command = f.noteLost.command := rfl
  simp only [Fdc.runReadNextSector, Fdc.noteLost_ticked, hnext, hcommand]
  cases (if bit f.noteLost.command 4 = true then f.noteLost.nextSector else none) <;> rfl

theorem Fdc.runWriteNextSector_ticked :
    (f.ticked u q).runWriteNextSector cfg = (f.runWriteNextSector cfg).ticked u q := by
  have hnext : (f.ticked u q).nextSector = f.nextSector := rfl
  have hcommand : (f.ticked u q).command = f.command := rfl
  simp only [Fdc.runWriteNextSector, hnext, hcommand]
  cases (if bit f.command 4 = true then f.nextSector else none) <;> rfl

theorem Fdc.runReadAddressFind_ticked :
    (f.ticked u q).runReadAddressFind cfg = (f.runReadAddressFind cfg).ticked u q := by
  have hfind : (f.ticked u q).drive.find 0 (f.ticked u q).density = f.drive.find 0 f.density := rfl
  unfold Fdc.runReadAddressFind
  rw [hfind]
  cases f.drive.find 0 f.density <;> rfl

theorem Fdc.runState_ticked : (f.ticked u q).runState cfg = (f.runState cfg).ticked u q := by
  have hstate : (f.ticked u q).state = f.state := rfl
  unfold Fdc.runState
  rw [hstate]
  cases f.state with
  | restoreCheck => exact f.runRestoreCheck_ticked cfg u q
  | seekStep => exact f.runSeekStep_ticked cfg u q
  | stepOnce => exact f.runStepOnce_ticked cfg u q
  | typeIVerify => exact f.runTypeIVerify_ticked cfg u q
  | typeIISettle => exact f.runTypeIISettle_ticked cfg u q
  | typeIIFind => exact f.runTypeIIFind_ticked cfg u q
  | readByte => exact f.runReadByte_ticked cfg u q
  | readNextSector => exact f.runReadNextSector_ticked cfg u q
  | writeByte => exact f.runWriteByte_ticked cfg u q
  | writeNextSector => exact f.runWriteNextSector_ticked cfg u q
  | readAddressFind => exact f.runReadAddressFind_ticked cfg u q
  | readAddressByte => exact f.runReadAddressByte_ticked cfg u q
  | idle | wait | spinUp | restoreStep | seekCheck | seekUpdate | stepUpdate | writeFirstDrq | rnfWait | forceInterrupt
  | finish => rfl

theorem Fdc.runStates_ticked (fuel : Nat) :
    Fdc.runStates cfg fuel (f.ticked u q) = (Fdc.runStates cfg fuel f).ticked u q := by
  induction fuel generalizing f with
  | zero => rfl
  | succ fuel ih =>
    have hresting : (f.ticked u q).resting = f.resting := rfl
    rw [Fdc.runStates, Fdc.runStates, hresting, Fdc.runState_ticked, ih, apply_ite (Fdc.ticked u q)]

end

/-! ### Updates that lead from one controller to another (R481) -/

theorem Fdc.updates_add (cfg : Config) (m n : Nat) (f : Fdc) :
    Fdc.updates cfg (m + n) f = Fdc.updates cfg n (Fdc.updates cfg m f) := by
  induction m generalizing f with
  | zero => rw [Nat.zero_add, Fdc.updates]
  | succ m ih => rw [Nat.succ_add, Fdc.updates, Fdc.updates, ih]

/-- `n` updates lead from `f` to `g`, whatever the index position and INTRQ: those alone may differ. -/
def Fdc.Reaches (cfg : Config) (n : Nat) (f g : Fdc) : Prop :=
  ∀ u q, ∃ u' q', Fdc.updates cfg n (f.ticked u q) = g.ticked u' q'

section
variable {cfg : Config} {f g h : Fdc} {m n : Nat}

theorem Fdc.Reaches.updates_eq (hr : Fdc.Reaches cfg n f g) : ∃ u q, Fdc.updates cfg n f = g.ticked u q := by
  have hf := hr f.indexUs false
  rwa [Fdc.ticked_false] at hf

theorem Fdc.Reaches.refl (cfg : Config) (f : Fdc) : Fdc.Reaches cfg 0 f f := fun u q => ⟨u, q, rfl⟩

theorem Fdc.Reaches.trans (hfg : Fdc.Reaches cfg m f g) (hgh : Fdc.Reaches cfg n g h) :
    Fdc.Reaches cfg (m + n) f h := by
  intro u q
  obtain ⟨u', q', hm⟩ := hfg u q
  rw [Fdc.updates_add, hm]
  exact hgh u' q'

/-- One update of a controller that is not idle. -/
theorem Fdc.Reaches.of_waitTick (hidle : f.state ≠ .idle)
    (htick : ∀ u q, (f.ticked u q).waitTick cfg = g.ticked u q) :
    Fdc.Reaches cfg 1 f (Fdc.runStates cfg 8 g) := by
  intro u q
  obtain ⟨u', q', hindex⟩ := Fdc.indexTick_of_not_idle (f := f.ticked u q) hidle cfg
  refine ⟨u', q || q', ?_⟩
  rw [Fdc.updates, Fdc.updates, Fdc.update, hindex, Fdc.ticked_ticked, htick, Fdc.runStates_ticked]

/-- An update outside `Idle` and `Wait` runs the states. -/
theorem Fdc.Reaches.run (hresting : f.resting = false) : Fdc.Reaches cfg 1 f (Fdc.runStates cfg 8 f) := by
  have hstate : f.state ≠ .idle ∧ f.state ≠ .wait := by simpa [Fdc.resting] using hresting
  exact .of_waitTick hstate.1 fun u q => if_pos hstate.2

/-- An update in a wait with time left counts down. -/
theorem Fdc.Reaches.countdown (htick : cfg.fdcTickUs = 1) (hstate : f.state = .wait) (hwait : f.waitUs = n + 2) :
    Fdc.Reaches cfg 1 f { f with waitUs := n + 1 } := by
  have hrest : Fdc.runStates cfg 8 { f with waitUs := n + 1 } = { f with waitUs := n + 1 } := by
    simp [Fdc.runStates, Fdc.resting, hstate]
  rw [← hrest]
  refine .of_waitTick (by simp [hstate]) fun u q => ?_
  simp [Fdc.waitTick, Fdc.ticked, hstate, hwait, htick]

/-- The controller `f` when its wait is over. -/
def Fdc.due (f : Fdc) : Fdc := { f with waitUs := 0, state := f.nextState }

/-- An update in a wait with one microsecond left runs the next state. -/
theorem Fdc.Reaches.expire (htick : cfg.fdcTickUs = 1) (hstate : f.state = .wait) (hwait : f.waitUs = 1) :
    Fdc.Reaches cfg 1 f (Fdc.runStates cfg 8 f.due) := by
  refine .of_waitTick (by simp [hstate]) fun u q => ?_
  simp [Fdc.waitTick, Fdc.ticked, Fdc.due, hstate, hwait, htick]

/-- `k` updates into a wait of at least `n + 1`, `k ≤ n`: only the countdown has moved. -/
theorem Fdc.Reaches.waiting (htick : cfg.fdcTickUs = 1) (hstate : f.state = .wait) (hwait : f.waitUs = n + 1) (k : Nat)
    (hk : k ≤ n) : Fdc.Reaches cfg k f { f with waitUs := n + 1 - k } := by
  induction k with
  | zero =>
    rw [Nat.sub_zero, ← hwait]
    exact .refl cfg f
  | succ k ih =>
    obtain ⟨left, hleft⟩ : ∃ left, n = k + 1 + left := ⟨n - (k + 1), by omega⟩
    have hnow : n + 1 - k = left + 2 := by omega
    have hnext : n + 1 - (k + 1) = left + 1 := by omega
    have hstep := ih (by omega)
    rw [hnow] at hstep
    rw [hnext]
    exact hstep.trans (.countdown (f := { f with waitUs := left + 2 }) htick hstate rfl)

/-- A whole wait, and the run of the state after it (R483). -/
theorem Fdc.Reaches.wait (htick : cfg.fdcTickUs = 1) (hstate : f.state = .wait) (hpos : 0 < f.waitUs) :
    Fdc.Reaches cfg f.waitUs f (Fdc.runStates cfg 8 f.due) := by
  obtain ⟨n, hn⟩ : ∃ n, f.waitUs = n + 1 := ⟨f.waitUs - 1, by omega⟩
  have hlast : n + 1 - n = 1 := by omega
  have hcount := Fdc.Reaches.waiting htick hstate hn n (Nat.le_refl n)
  rw [hlast] at hcount
  rw [hn]
  exact hcount.trans (.expire (f := { f with waitUs := 1 }) htick hstate rfl)

/-- `Wait(w, next)` followed to its end. -/
theorem Fdc.Reaches.waitFor (htick : cfg.fdcTickUs = 1) {w : Nat} (hpos : 0 < w) (f : Fdc) (next : FdcState) :
    Fdc.Reaches cfg w (f.waitFor w next)
      (Fdc.runStates cfg 8 { f with state := next, waitUs := 0, nextState := next }) :=
  Fdc.Reaches.wait (f := f.waitFor w next) htick rfl hpos

end

/-- Settles O49: the countdown by `Fdc.Reaches.waiting`, and its last microsecond by one more update. -/
theorem fdcWaits : Obligations.FdcWaits := by
  intro cfg f n htick hstate hwait
  have hcount (k : Nat) (hk : k ≤ n) := (Fdc.Reaches.waiting htick hstate hwait k hk).updates_eq
  refine ⟨fun k hk => ?_, ?_⟩
  · obtain ⟨u, q, hk⟩ := hcount k hk
    rw [hk]
    exact ⟨hstate, rfl, rfl, rfl, rfl, rfl, rfl, rfl, rfl, rfl, rfl, rfl⟩
  · obtain ⟨u, q, hn⟩ := hcount n (Nat.le_refl n)
    have hlast : n + 1 - n = 1 := by omega
    rw [hlast] at hn
    obtain ⟨u', q', hindex⟩ :=
      Fdc.indexTick_of_not_idle (f := (({ f with waitUs := 1 } : Fdc).ticked u q)) (by simp [Fdc.ticked, hstate]) cfg
    rw [Fdc.updates_add, hn, Fdc.updates, Fdc.updates, Fdc.update, hindex]
    simp [Fdc.waitTick, Fdc.ticked, hstate, htick]

end Sys2Proof.Machine
end

section
/-! PROOFS. Runs of the controller's states in one update (R481, R485): where such a run stops, what `Finish` leaves, and
what the transfer states leave, each as one record; then the bytes of a sector and its boundary (O50). -/

namespace Sys2Proof.Machine

/-! ### Runs of states (R481) -/

section
variable {cfg : Config} {f g : Fdc}

theorem Fdc.runStates_of_resting (h : f.resting = true) (fuel : Nat) : Fdc.runStates cfg fuel f = f := by
  cases fuel with
  | zero => rfl
  | succ fuel => exact if_pos h

theorem Fdc.runStates_of_acts (h : f.resting = false) (fuel : Nat) :
    Fdc.runStates cfg (fuel + 1) f = Fdc.runStates cfg fuel (f.runState cfg) := by
  rw [Fdc.runStates, h]
  rfl

theorem Fdc.not_resting {q : FdcState} (h : f.state = q) (hidle : q ≠ .idle := by decide) (hwait : q ≠ .wait := by decide) :
    f.resting = false := by
  simp [Fdc.resting, h, hidle, hwait]

/-- A state whose action leads to `Idle` or `Wait` is the last of its update. -/
theorem Fdc.runStates_last (h : f.resting = false) (hrun : f.runState cfg = g) (hg : g.resting = true) (fuel : Nat) :
    Fdc.runStates cfg (fuel + 1) f = g := by
  rw [Fdc.runStates_of_acts h, hrun, Fdc.runStates_of_resting hg]

end

/-! ### Finish (R485) -/

/-- `g` rests in `Idle` with INTRQ raised and busy cleared, and else has what `f` had. -/
structure Fdc.Finished (f g : Fdc) : Prop where
  state : g.state = .idle
  intrq : g.intrq = true
  status : ∀ k : Fin 8, bit g.status k.val = (bit f.status k.val && k.val != 0)
  track : g.track = f.track
  sector : g.sector = f.sector
  data : g.data = f.data
  drq : g.drq = f.drq
  dir : g.dir = f.dir
  offset : g.offset = f.offset
  drive : g.drive = f.drive

theorem Fdc.Finished.busy {f g : Fdc} (h : f.Finished g) : g.busy = false :=
  (h.status 0).trans (Bool.and_false _)

theorem Fdc.Finished.ticked {f g : Fdc} (h : f.Finished g) (u : Nat) (q : Bool) : f.Finished (g.ticked u q) :=
  { h with intrq := by rw [Fdc.ticked, h.intrq, Bool.true_or] }

theorem Fdc.finished_of_finish {f : Fdc} (h : f.state = .finish) (cfg : Config) (fuel : Nat) :
    f.Finished (Fdc.runStates cfg (fuel + 1) f) := by
  have hrun : f.runState cfg = f.runFinish := by rw [Fdc.runState, h]
  rw [Fdc.runStates_last (Fdc.not_resting h) hrun rfl]
  exact ⟨rfl, rfl, bit_clearBit f.status 0, rfl, rfl, rfl, rfl, rfl, rfl, rfl⟩

/-! ### Lost data (R510, R520) -/

/-- The status with lost data noted if DRQ is still up. -/
def Fdc.lostStatus (f : Fdc) : Byte := if f.drq then setBit 8 f.status 2 true else f.status

theorem Fdc.noteLost_eq (f : Fdc) : f.noteLost = { f with status := f.lostStatus } := by
  unfold Fdc.noteLost Fdc.lostStatus
  split <;> rfl

theorem Fdc.bit_lostStatus (f : Fdc) (k : Fin 8) :
    bit f.lostStatus k.val = (bit f.status k.val || (k.val == 2 && f.drq)) := by
  unfold Fdc.lostStatus
  cases f.drq with
  | true => simpa using bit_raiseBit f.status 2 k
  | false => simp

/-! ### The bytes of a transfer (R510, R511, R520) -/

section
variable {f : Fdc} (cfg : Config)

/-- `Read_Byte`, run when a wait is over. -/
theorem Fdc.due_readByte (h : f.nextState = .readByte) :
    Fdc.runStates cfg 8 f.due =
      { f with
        status := f.lostStatus, data := (f.drive.getByte f.sector f.offset).getD f.data, drq := true
        offset := f.offset + 1, state := .wait, waitUs := cfg.fdcByteUs
        nextState := if f.offset + 1 = f.secSize then .readNextSector else .readByte } := by
  refine Fdc.runStates_last (Fdc.not_resting h) ?_ rfl 7
  simp only [Fdc.runState, Fdc.due, h, Fdc.runReadByte, Fdc.noteLost_eq]
  split <;> rfl

/-- `ReadAddress_Byte`. -/
theorem Fdc.due_readAddressByte (h : f.nextState = .readAddressByte) :
    Fdc.runStates cfg 8 f.due =
      { f with
        status := f.lostStatus, data := f.addrBuf.getD f.offset.toNat 0, drq := true
        offset := f.offset + 1, state := .wait, waitUs := cfg.fdcByteUs
        nextState := if f.offset + 1 = 6 then .finish else .readAddressByte } := by
  refine Fdc.runStates_last (Fdc.not_resting h) ?_ rfl 7
  simp only [Fdc.runState, Fdc.due, h, Fdc.runReadAddressByte, Fdc.noteLost_eq]
  split <;> rfl

/-- `Write_Byte`. -/
theorem Fdc.due_writeByte (h : f.nextState = .writeByte) :
    Fdc.runStates cfg 8 f.due =
      { f with
        status := f.lostStatus, drive := f.drive.setByte f.sector f.offset (if f.drq then 0 else f.data)
        drq := if f.offset + 1 = f.secSize then f.drq else true
        offset := f.offset + 1, state := .wait, waitUs := cfg.fdcByteUs
        nextState := if f.offset + 1 = f.secSize then .writeNextSector else .writeByte } := by
  refine Fdc.runStates_last (Fdc.not_resting h) ?_ rfl 7
  simp only [Fdc.runState, Fdc.due, h, Fdc.runWriteByte, Fdc.noteLost_eq]
  split <;> rfl

/-- `Write_FirstDRQ`. -/
theorem Fdc.due_writeFirstDrq (h : f.nextState = .writeFirstDrq) :
    Fdc.runStates cfg 8 f.due =
      { f with drq := true, state := .wait, waitUs := cfg.fdcByteUs, nextState := .writeByte } := by
  refine Fdc.runStates_last (Fdc.not_resting h) ?_ rfl 7
  simp only [Fdc.runState, Fdc.due, h]
  rfl

theorem Fdc.due_finish (h : f.nextState = .finish) : f.Finished (Fdc.runStates cfg 8 f.due) := by
  exact { Fdc.finished_of_finish (f := f.due) h cfg 7 with }

/-! ### The sector boundary (R515) -/

/-- The sector a command goes on with: a multi-sector command's next one on this track. -/
def Fdc.lookAhead (f : Fdc) : Option Sector := if bit f.command 4 then f.nextSector else none

theorem Fdc.lookAhead_eq_some {q : Sector} (hmulti : bit f.command 4 = true)
    (hfind : f.drive.find (f.sector + 1) f.density = some q) (htrack : q.idTrack = f.track) : f.lookAhead = some q := by
  rw [Fdc.lookAhead, if_pos hmulti, Fdc.nextSector, hfind]
  exact if_pos htrack

theorem Fdc.lookAhead_eq_none (h : bit f.command 4 = false ∨
    ∀ q, f.drive.find (f.sector + 1) f.density = some q → q.idTrack ≠ f.track) : f.lookAhead = none := by
  unfold Fdc.lookAhead Fdc.nextSector
  obtain hsingle | hnone := h
  · rw [hsingle]
    rfl
  · cases hfind : f.drive.find (f.sector + 1) f.density with
    | none => exact ite_self none
    | some q => simp [hnone q hfind]

theorem Fdc.runReadNextSector_of_some {q : Sector} (h : f.lookAhead = some q) :
    f.runReadNextSector cfg =
      { f with
        status := f.lostStatus, sector := f.sector + 1, secSize := q.size.bytes, offset := 0
        state := .wait, waitUs := cfg.fdcByteUs, nextState := .readByte } := by
  have hahead : (if bit f.noteLost.command 4 then f.noteLost.nextSector else none) = some q := by
    rwa [Fdc.noteLost_eq]
  unfold Fdc.runReadNextSector
  simp only [hahead]
  rw [Fdc.noteLost_eq]
  rfl

theorem Fdc.runReadNextSector_of_none (h : f.lookAhead = none) :
    f.runReadNextSector cfg = { f with status := f.lostStatus, state := .finish } := by
  have hahead : (if bit f.noteLost.command 4 then f.noteLost.nextSector else none) = none := by
    rwa [Fdc.noteLost_eq]
  unfold Fdc.runReadNextSector
  simp only [hahead]
  rw [Fdc.noteLost_eq]

theorem Fdc.runWriteNextSector_of_some {q : Sector} (h : f.lookAhead = some q) :
    f.runWriteNextSector cfg =
      { f with
        drq := true, sector := f.sector + 1, secSize := q.size.bytes, offset := 0
        state := .wait, waitUs := cfg.fdcByteUs, nextState := .writeByte } := by
  unfold Fdc.lookAhead at h
  unfold Fdc.runWriteNextSector
  simp only [h]
  rfl

theorem Fdc.runWriteNextSector_of_none (h : f.lookAhead = none) :
    f.runWriteNextSector cfg = { f with state := .finish } := by
  unfold Fdc.lookAhead at h
  unfold Fdc.runWriteNextSector
  simp only [h]

/-- `Read_NextSector` with a sector to go on with. -/
theorem Fdc.due_readNextSector {q : Sector} (h : f.nextState = .readNextSector) (hnext : f.lookAhead = some q) :
    Fdc.runStates cfg 8 f.due =
      { f with
        status := f.lostStatus, sector := f.sector + 1, secSize := q.size.bytes, offset := 0
        state := .wait, waitUs := cfg.fdcByteUs, nextState := .readByte } := by
  refine Fdc.runStates_last (Fdc.not_resting h) ?_ rfl 7
  have hrun : f.due.runState cfg = f.due.runReadNextSector cfg := by rw [Fdc.runState, Fdc.due, h]
  rw [hrun, Fdc.runReadNextSector_of_some cfg (by exact hnext)]
  rfl

/-- `Read_NextSector` after the last sector. -/
theorem Fdc.due_readNextSector_last (h : f.nextState = .readNextSector) (hnext : f.lookAhead = none) :
    Fdc.Finished { f with status := f.lostStatus } (Fdc.runStates cfg 8 f.due) := by
  have hrun : f.due.runState cfg = f.due.runReadNextSector cfg := by rw [Fdc.runState, Fdc.due, h]
  rw [Fdc.runStates_of_acts (Fdc.not_resting h), hrun, Fdc.runReadNextSector_of_none cfg (by exact hnext)]
  exact { Fdc.finished_of_finish rfl cfg 6 with }

/-- `Write_NextSector` with a sector to go on with. -/
theorem Fdc.due_writeNextSector {q : Sector} (h : f.nextState = .writeNextSector) (hnext : f.lookAhead = some q) :
    Fdc.runStates cfg 8 f.due =
      { f with
        drq := true, sector := f.sector + 1, secSize := q.size.bytes, offset := 0
        state := .wait, waitUs := cfg.fdcByteUs, nextState := .writeByte } := by
  refine Fdc.runStates_last (Fdc.not_resting h) ?_ rfl 7
  have hrun : f.due.runState cfg = f.due.runWriteNextSector cfg := by rw [Fdc.runState, Fdc.due, h]
  rw [hrun, Fdc.runWriteNextSector_of_some cfg (by exact hnext)]
  rfl

/-- `Write_NextSector` after the last sector. -/
theorem Fdc.due_writeNextSector_last (h : f.nextState = .writeNextSector) (hnext : f.lookAhead = none) :
    f.Finished (Fdc.runStates cfg 8 f.due) := by
  have hrun : f.due.runState cfg = f.due.runWriteNextSector cfg := by rw [Fdc.runState, Fdc.due, h]
  rw [Fdc.runStates_of_acts (Fdc.not_resting h), hrun, Fdc.runWriteNextSector_of_none cfg (by exact hnext)]
  exact { Fdc.finished_of_finish rfl cfg 6 with }

end

/-- Settles O50: each clause is the record its state leaves, apart from the index position and INTRQ. -/
theorem sectorBytes : Obligations.SectorBytes := by
  intro cfg f n htick hstate hwait g
  have hpos : 0 < f.waitUs := by omega
  obtain ⟨u, q, hg⟩ : ∃ u q, g = (Fdc.runStates cfg 8 f.due).ticked u q := by
    have hreach := (Fdc.Reaches.wait htick hstate hpos).updates_eq
    rwa [hwait] at hreach
  refine ⟨fun h => ?_, fun h => ?_, fun h => ?_, fun h => ?_, fun h => ?_, fun h => ?_, fun h => ?_⟩
  · rw [hg, Fdc.due_readByte cfg h]
    exact ⟨rfl, rfl, rfl, rfl⟩
  · have hsixth : f.offset + 1 = 6 ↔ f.offset = 5 := by bv_omega
    rw [hg, Fdc.due_readAddressByte cfg h]
    refine ⟨fun b hb => ?_, rfl, rfl, rfl, ite_congr (propext hsixth) (fun _ => rfl) fun _ => rfl⟩
    exact (List.getD_eq_getElem?_getD).trans (by rw [hb]; rfl)
  · rw [hg, Fdc.due_writeByte cfg h]
    exact ⟨rfl, rfl, rfl, rfl⟩
  · have hlost := f.bit_lostStatus
    obtain h | h | h := h
    · rw [hg, Fdc.due_readByte cfg h]
      exact ⟨rfl, rfl, rfl, rfl, rfl, hlost⟩
    · rw [hg, Fdc.due_readAddressByte cfg h]
      exact ⟨rfl, rfl, rfl, rfl, rfl, hlost⟩
    · rw [hg, Fdc.due_writeByte cfg h]
      exact ⟨rfl, rfl, rfl, rfl, rfl, hlost⟩
  · rw [hg, Fdc.due_writeFirstDrq cfg h]
    exact ⟨rfl, rfl, rfl, rfl, rfl, rfl, rfl, rfl, rfl, rfl⟩
  · intro lost
    obtain h | h := h
    · have hlost : lost = f.drq := by simp [lost, h]
      rw [hlost, h]
      refine ⟨fun q' hmulti hfind htrack => ?_, fun hlast => ?_⟩
      · rw [hg, Fdc.due_readNextSector cfg h (Fdc.lookAhead_eq_some hmulti hfind htrack)]
        exact ⟨rfl, rfl, rfl, rfl, rfl, rfl, rfl, f.bit_lostStatus⟩
      · have hfin := (Fdc.due_readNextSector_last cfg h (Fdc.lookAhead_eq_none hlast)).ticked u q
        rw [← hg] at hfin
        refine ⟨hfin.state, hfin.intrq, hfin.busy, hfin.sector, hfin.drq, fun k => ?_⟩
        rw [hfin.status, Fdc.bit_lostStatus]
    · have hlost : lost = false := by simp [lost, h]
      simp only [hlost, h, Bool.and_false, Bool.or_false]
      refine ⟨fun q' hmulti hfind htrack => ?_, fun hlast => ?_⟩
      · rw [hg, Fdc.due_writeNextSector cfg h (Fdc.lookAhead_eq_some hmulti hfind htrack)]
        exact ⟨rfl, rfl, rfl, rfl, rfl, rfl, rfl, fun _ => rfl⟩
      · have hfin := (Fdc.due_writeNextSector_last cfg h (Fdc.lookAhead_eq_none hlast)).ticked u q
        rw [← hg] at hfin
        exact ⟨hfin.state, hfin.intrq, hfin.busy, hfin.sector, hfin.drq, hfin.status⟩
  · have hfin := (Fdc.due_finish cfg h).ticked u q
    rw [← hg] at hfin
    exact ⟨hfin.state, hfin.intrq, hfin.drq, hfin.data, hfin.drive, hfin.status⟩

end Sys2Proof.Machine
end

section
/-! PROOFS. The search before a transfer (O53): after the settle delay one action finds the sector or the address record, or
waits for the index pulses after which the command ends with Record Not Found. -/

namespace Sys2Proof.Machine

/-! ### The search states (R512, R520) -/

/-- The action of the running command's search state. -/
def Fdc.search (cfg : Config) (f : Fdc) : Fdc :=
  if bit f.command 6 then f.runReadAddressFind cfg else f.runTypeIIFind cfg

/-- No sector to go on with: a Type II command wants one with the track register's track in its ID, Read Address any. -/
def Fdc.SearchFails (f : Fdc) : Prop :=
  (bit f.command 6 = false ∧ ∀ q, f.drive.find f.sector f.density = some q → q.idTrack ≠ f.track) ∨
    (bit f.command 6 = true ∧ f.drive.find 0 f.density = none)

section
variable (cfg : Config) {f : Fdc}

/-- A Type II command whose sector is found (R512). -/
theorem Fdc.search_typeII {q : Sector} (htype : bit f.command 6 = false)
    (hfind : f.drive.find f.sector f.density = some q) (htrack : q.idTrack = f.track) :
    f.search cfg =
      { f with
        secTrack := q.idTrack, secSide := q.idSide, secSize := q.size.bytes, offset := 0
        status := if bit f.command 5 then f.status else setBit 8 f.status 5 false
        state := .wait, waitUs := cfg.fdcByteUs
        nextState := if bit f.command 5 then .writeFirstDrq else .readByte } := by
  rw [Fdc.search, htype, if_neg Bool.false_ne_true, Fdc.runTypeIIFind, hfind]
  cases hwrite : bit f.command 5 <;> simp [Fdc.sectorDetails, Fdc.waitFor, Fdc.setStatus, hwrite, htrack]

/-- Read Address with a sector under the head (R520). -/
theorem Fdc.search_readAddress {q : Sector} (htype : bit f.command 6 = true)
    (hfind : f.drive.find 0 f.density = some q) :
    f.search cfg =
      { f with
        secTrack := q.idTrack, secSide := q.idSide, secSize := q.size.bytes, offset := 0
        addrBuf := [q.idTrack, q.idSide, 0, q.size.code, Config.crcByte f.draws, Config.crcByte (f.draws + 1)]
        draws := f.draws + 2, sector := q.idTrack
        state := .wait, waitUs := cfg.fdcByteUs, nextState := .readAddressByte } := by
  rw [Fdc.search, if_pos htype, Fdc.runReadAddressFind, hfind]
  rfl

/-- A search that fails waits for its index pulses, and stores at most the sector's details. -/
theorem Fdc.search_fails (h : f.SearchFails) :
    ∃ track side size, f.search cfg =
      ({ f with secTrack := track, secSide := side, secSize := size } : Fdc).waitRnf cfg := by
  unfold Fdc.search
  obtain ⟨htype, hfails⟩ | ⟨htype, hfind⟩ := h
  · rw [htype, if_neg Bool.false_ne_true, Fdc.runTypeIIFind]
    cases hfind : f.drive.find f.sector f.density with
    | none => exact ⟨_, _, _, rfl⟩
    | some q => exact ⟨_, _, _, if_pos (hfails q hfind)⟩
  · rw [if_pos htype, Fdc.runReadAddressFind, hfind]
    exact ⟨_, _, _, rfl⟩

/-- A search ends in a wait of its own, whatever wait it was reached by. -/
theorem Fdc.search_of_wait (f : Fdc) (state next : FdcState) (w : Nat) :
    ({ f with state := state, waitUs := w, nextState := next } : Fdc).search cfg = f.search cfg := by
  simp only [Fdc.search, Fdc.runTypeIIFind, Fdc.runReadAddressFind]
  cases f.drive.find f.sector f.density <;> cases f.drive.find 0 f.density <;> rfl

theorem Fdc.search_resting (f : Fdc) : (f.search cfg).resting = true := by
  have hfailed (h : f.SearchFails) : (f.search cfg).resting = true := by
    obtain ⟨_, _, _, hsearch⟩ := Fdc.search_fails cfg h
    rw [hsearch]
    rfl
  cases htype : bit f.command 6 with
  | true =>
    cases hfind : f.drive.find 0 f.density with
    | none => exact hfailed (.inr ⟨htype, hfind⟩)
    | some q =>
      rw [Fdc.search_readAddress cfg htype hfind]
      rfl
  | false =>
    by_cases hfound : ∃ q, f.drive.find f.sector f.density = some q ∧ q.idTrack = f.track
    · obtain ⟨q, hfind, htrack⟩ := hfound
      rw [Fdc.search_typeII cfg htype hfind htrack]
      rfl
    · exact hfailed (.inl ⟨htype, fun q hfind htrack => hfound ⟨q, hfind, htrack⟩⟩)

theorem Fdc.runStates_search (f : Fdc) (w : Nat) (next : FdcState) (fuel : Nat) :
    Fdc.runStates cfg (fuel + 1) { f with state := f.findState, waitUs := w, nextState := next } = f.search cfg := by
  rw [← f.search_of_wait cfg f.findState next w]
  refine Fdc.runStates_last ?_ ?_ (Fdc.search_resting cfg _) fuel
  · cases htype : bit f.command 6 <;> simp [Fdc.resting, Fdc.findState, htype]
  · cases htype : bit f.command 6 <;> simp [Fdc.runState, Fdc.search, Fdc.findState, htype]

variable {cfg}

/-- The E delay and the update in which the search runs. -/
theorem Fdc.Reaches.search (htick : cfg.fdcTickUs = 1) (hstate : f.state = .typeIISettle) (hpos : 0 < cfg.fdcSettleUs) :
    Fdc.Reaches cfg ((if bit f.command 2 then cfg.fdcSettleUs else 0) + 1) f (f.search cfg) := by
  have hresting : f.resting = false := Fdc.not_resting hstate
  have hrun : f.runState cfg = f.runTypeIISettle cfg := by rw [Fdc.runState, hstate]
  have hstart := Fdc.Reaches.run (cfg := cfg) hresting
  rw [Fdc.runStates_of_acts hresting, hrun, Fdc.runTypeIISettle] at hstart
  cases hdelay : bit f.command 2 with
  | true =>
    rw [if_pos hdelay, Fdc.runStates_of_resting rfl] at hstart
    have hwait := Fdc.Reaches.waitFor htick hpos f f.findState
    rw [Fdc.runStates_search cfg f 0 f.findState 7] at hwait
    rw [if_pos rfl, Nat.add_comm]
    exact hstart.trans hwait
  | false =>
    rw [hdelay, if_neg Bool.false_ne_true] at hstart
    rw [if_neg Bool.false_ne_true, Nat.zero_add, ← Fdc.runStates_search cfg f f.waitUs f.nextState 6]
    exact hstart

end

/-! ### Record Not Found (R513) -/

/-- A failed search raises the two bits after its wait and finishes. -/
theorem Fdc.Reaches.recordNotFound {cfg : Config} (htick : cfg.fdcTickUs = 1)
    (hpos : 0 < cfg.fdcRnfPulses * cfg.fdcIndexPeriodUs) (f : Fdc) :
    ∃ g, Fdc.Reaches cfg (cfg.fdcRnfPulses * cfg.fdcIndexPeriodUs) (f.waitRnf cfg) g ∧
      Fdc.Finished { f with status := setBit 8 (setBit 8 f.status 4 true) 3 true } g := by
  have hwait := Fdc.Reaches.waitFor htick hpos f .rnfWait
  rw [Fdc.runStates_of_acts rfl] at hwait
  exact ⟨_, hwait, { Fdc.finished_of_finish rfl cfg 6 with }⟩

/-- The status of a command that ended so: busy cleared, bits 4 and 3 set. -/
theorem bit_rnfStatus (v : Byte) (k : Fin 8) :
    (bit (setBit 8 (setBit 8 v 4 true) 3 true) k.val && k.val != 0) =
      ((bit v k.val && k.val != 0) || k.val == 3 || k.val == 4) := by
  have hbits : ∀ (b : Bool) (k : Fin 8),
      (((b || k.val == 4) || k.val == 3) && k.val != 0) = ((b && k.val != 0) || k.val == 3 || k.val == 4) := by decide
  rw [bit_raiseBit, bit_raiseBit]
  exact hbits _ k

/-- Settles O53: the search reached after the settle delay, in each of its three outcomes; a failed one is followed through
its wait. -/
theorem sectorSearch : Obligations.SectorSearch := by
  intro cfg f htick hstate hsettle hrnf n g h
  have hreach : Fdc.Reaches cfg n f (f.search cfg) := Fdc.Reaches.search htick hstate hsettle
  obtain ⟨u, x, hg⟩ := hreach.updates_eq
  refine ⟨fun q htype hfind htrack => ?_, fun q htype hfind => ?_, fun hfails => ?_⟩
  · rw [show g = _ from hg, Fdc.search_typeII cfg htype hfind htrack]
    refine ⟨rfl, rfl, rfl, rfl, rfl, rfl, rfl, rfl, fun k => ?_⟩
    cases hwrite : bit f.command 5 with
    | true => simp [Fdc.ticked]
    | false => simpa [Fdc.ticked, hwrite] using bit_clearBit f.status 5 k
  · rw [show g = _ from hg, Fdc.search_readAddress cfg htype hfind]
    exact ⟨rfl, rfl, rfl, rfl, rfl, rfl, rfl, rfl⟩
  · obtain ⟨track, side, size, hsearch⟩ := Fdc.search_fails cfg hfails
    rw [hsearch] at hreach
    obtain ⟨r, hwait, hfinished⟩ := Fdc.Reaches.recordNotFound htick hrnf
      { f with secTrack := track, secSide := side, secSize := size }
    obtain ⟨u', x', hh⟩ := (hreach.trans hwait).updates_eq
    have hfin := hfinished.ticked u' x'
    rw [← hh] at hfin
    exact ⟨hfin.state, hfin.intrq, hfin.drive, hfin.sector, hfin.track,
      fun k => (hfin.status k).trans (bit_rnfStatus f.status k)⟩

end Sys2Proof.Machine
end

section
/-! PROOFS. A multi-sector read (O54): the bytes of a sector by induction over its offsets, the sectors by induction over their
numbers, with what stays the same all along as one structure. -/

namespace Sys2Proof.Machine

/-- `g` is the running read `f` at the start of a wait of one byte time for `next`, at the given sector and offset. -/
structure Fdc.ReadsOn (cfg : Config) (f : Fdc) (next : FdcState) (sector : Byte) (offset : Word) (g : Fdc) : Prop where
  state : g.state = .wait
  waitUs : g.waitUs = cfg.fdcByteUs
  nextState : g.nextState = next
  sector : g.sector = sector
  offset : g.offset = offset
  secSize : g.secSize = f.secSize
  command : g.command = f.command
  track : g.track = f.track
  density : g.density = f.density
  drive : g.drive = f.drive

section
variable {cfg : Config} {f g : Fdc} {sector : Byte} {offset : Word}

/-- The update in which a wait of such a read ends. -/
theorem Fdc.ReadsOn.reaches {next : FdcState} (h : f.ReadsOn cfg next sector offset g) (htick : cfg.fdcTickUs = 1)
    (hpos : 0 < cfg.fdcByteUs) : Fdc.Reaches cfg cfg.fdcByteUs g (Fdc.runStates cfg 8 g.due) := by
  have hwait := Fdc.Reaches.wait htick h.state (by rwa [h.waitUs])
  rwa [h.waitUs] at hwait

/-- One byte (R510). -/
theorem Fdc.ReadsOn.readByte (h : f.ReadsOn cfg .readByte sector offset g) :
    f.ReadsOn cfg (if offset + 1 = f.secSize then .readNextSector else .readByte) sector (offset + 1)
      (Fdc.runStates cfg 8 g.due) := by
  rw [Fdc.due_readByte cfg h.nextState]
  exact { h with
    state := rfl
    waitUs := rfl
    nextState := by rw [h.offset, h.secSize]
    offset := by rw [h.offset] }

/-- The boundary to a sector of the same size (R515). -/
theorem Fdc.ReadsOn.nextSector {q : Sector} (h : f.ReadsOn cfg .readNextSector sector offset g)
    (hmulti : bit f.command 4 = true) (hfind : f.drive.find (sector + 1) f.density = some q)
    (htrack : q.idTrack = f.track) (hsize : q.size.bytes = f.secSize) :
    f.ReadsOn cfg .readByte (sector + 1) 0 (Fdc.runStates cfg 8 g.due) := by
  have hahead : g.lookAhead = some q :=
    Fdc.lookAhead_eq_some (by rwa [h.command]) (by rwa [h.drive, h.sector, h.density]) (by rwa [h.track])
  rw [Fdc.due_readNextSector cfg h.nextState hahead]
  exact { h with
    state := rfl
    waitUs := rfl
    nextState := rfl
    sector := by rw [h.sector]
    offset := rfl
    secSize := hsize }

/-- The boundary after the last sector. -/
theorem Fdc.ReadsOn.lastSector (h : f.ReadsOn cfg .readNextSector sector offset g)
    (hlast : ∀ q, f.drive.find (sector + 1) f.density = some q → q.idTrack ≠ f.track) :
    Fdc.Finished { g with status := g.lostStatus } (Fdc.runStates cfg 8 g.due) :=
  Fdc.due_readNextSector_last cfg h.nextState
    (Fdc.lookAhead_eq_none (.inr (by rwa [h.drive, h.sector, h.density, h.track])))

variable (htick : cfg.fdcTickUs = 1) (hpos : 0 < cfg.fdcByteUs)
include htick hpos

/-- The first `k` bytes of a sector. -/
theorem Fdc.ReadsOn.readBytes (h : f.ReadsOn cfg .readByte sector 0 g) (k : Nat) (hk : k ≤ f.secSize.toNat)
    (hsize : 0 < f.secSize.toNat) :
    ∃ r, Fdc.Reaches cfg (k * cfg.fdcByteUs) g r ∧
      f.ReadsOn cfg (if k = f.secSize.toNat then .readNextSector else .readByte) sector (BitVec.ofNat 16 k) r := by
  induction k with
  | zero =>
    rw [Nat.zero_mul, if_neg (by omega)]
    exact ⟨g, .refl cfg g, h⟩
  | succ k ih =>
    obtain ⟨r, hreach, hr⟩ := ih (by omega)
    rw [if_neg (by omega)] at hr
    have hend : BitVec.ofNat 16 k + 1 = f.secSize ↔ k + 1 = f.secSize.toNat := by bv_omega
    have hbyte := hr.readByte
    simp only [hend] at hbyte
    rw [Nat.succ_mul, BitVec.ofNat_add]
    exact ⟨_, hreach.trans (hr.reaches htick hpos), hbyte⟩

/-- All bytes of a sector. -/
theorem Fdc.ReadsOn.readSector (h : f.ReadsOn cfg .readByte sector 0 g) (hsize : 0 < f.secSize.toNat) :
    ∃ r, Fdc.Reaches cfg (f.secSize.toNat * cfg.fdcByteUs) g r ∧ f.ReadsOn cfg .readNextSector sector f.secSize r := by
  obtain ⟨r, hreach, hr⟩ := h.readBytes htick hpos f.secSize.toNat (Nat.le_refl _) hsize
  rw [if_pos rfl, BitVec.ofNat_toNat, BitVec.setWidth_eq] at hr
  exact ⟨r, hreach, hr⟩

/-- The first `j` sectors of a read whose sectors have one size. -/
theorem Fdc.ReadsOn.readSectors (h : f.ReadsOn cfg .readByte f.sector 0 g) (hsize : 0 < f.secSize.toNat)
    (hmulti : bit f.command 4 = true) (j : Nat)
    (hfind : ∀ k, 0 < k → k ≤ j → ∃ q, f.drive.find (f.sector + BitVec.ofNat 8 k) f.density = some q ∧
      q.idTrack = f.track ∧ q.size.bytes = f.secSize) :
    ∃ r, Fdc.Reaches cfg (j * ((f.secSize.toNat + 1) * cfg.fdcByteUs)) g r ∧
      f.ReadsOn cfg .readByte (f.sector + BitVec.ofNat 8 j) 0 r := by
  induction j with
  | zero =>
    have hfirst : f.sector + BitVec.ofNat 8 0 = f.sector := BitVec.add_zero f.sector
    rw [Nat.zero_mul, hfirst]
    exact ⟨g, .refl cfg g, h⟩
  | succ j ih =>
    obtain ⟨r, hreach, hr⟩ := ih fun k h0 hk => hfind k h0 (by omega)
    obtain ⟨e, hsector, he⟩ := hr.readSector htick hpos hsize
    obtain ⟨q, hq, htrack, hbytes⟩ := hfind (j + 1) (by omega) (Nat.le_refl _)
    rw [BitVec.ofNat_add, ← BitVec.add_assoc] at hq ⊢
    have hboundary := hsector.trans (he.reaches htick hpos)
    rw [← Nat.succ_mul] at hboundary
    rw [Nat.succ_mul]
    exact ⟨_, hreach.trans hboundary, he.nextSector hmulti hq htrack hbytes⟩

end

theorem SectorSize.bytes_pos (z : SectorSize) : 0 < z.bytes.toNat := by
  cases z <;> decide

/-- Settles O54: the sectors before the last by `Fdc.ReadsOn.readSectors`, then the last one's bytes and its boundary. -/
theorem multiSectorRead : Obligations.MultiSectorRead := by
  intro cfg f z n htick hpos hn hstate hnext hwait hoffset hz hmulti hfind hlast period
  have hsize : 0 < f.secSize.toNat := by
    rw [hz]
    exact z.bytes_pos
  have hperiod : period = (f.secSize.toNat + 1) * cfg.fdcByteUs := by rw [hz]
  have hstart : f.ReadsOn cfg .readByte f.sector 0 f := ⟨hstate, hwait, hnext, rfl, hoffset, rfl, rfl, rfl, rfl, rfl⟩
  have hsectors (j : Nat) (hj : j < n) := hstart.readSectors htick hpos hsize hmulti j fun k h0 hk => by
    obtain ⟨q, hq, htrack, rfl⟩ := hfind k h0 (by omega)
    exact ⟨q, hq, htrack, hz.symm⟩
  rw [← hperiod] at hsectors
  refine ⟨fun j hj => ?_, ?_⟩
  · obtain ⟨r, hreach, hr⟩ := hsectors j hj
    obtain ⟨u, x, heq⟩ := hreach.updates_eq
    rw [heq]
    exact ⟨hr.state, hr.nextState, hr.waitUs, hr.offset, hr.sector⟩
  · obtain ⟨m, rfl⟩ : ∃ m, n = m + 1 := ⟨n - 1, by omega⟩
    obtain ⟨r, hreach, hr⟩ := hsectors m (by omega)
    obtain ⟨e, hsector, he⟩ := hr.readSector htick hpos hsize
    rw [BitVec.ofNat_add, ← BitVec.add_assoc] at hlast
    obtain ⟨u, x, heq⟩ := (hreach.trans (hsector.trans (he.reaches htick hpos))).updates_eq
    have hfin := (he.lastSector hlast).ticked u x
    rw [← heq, ← Nat.succ_mul, ← hperiod, ← Nat.succ_mul] at hfin
    exact ⟨hfin.state, hfin.intrq, hfin.busy, hfin.sector.trans he.sector, hfin.offset.trans (he.offset.trans hz),
      hfin.drive.trans he.drive⟩

end Sys2Proof.Machine
end

section
/-! PROOFS. The Type I commands (O51, O52): the end they share, one step of each as a run from one check of the states to the
next, and Restore and Seek by induction over the tracks that are left. -/

namespace Sys2Proof.Machine

/-! ### The drive's steps (R484) -/

/-- The drive after `n` steps outward, one call each. -/
def Drive.stepsOut (rate n : Nat) (d : Drive) : Drive :=
  { d with head := d.head - n, calls := d.calls ++ List.replicate n (.stepOut rate) }

theorem Drive.stepsOut_zero (rate : Nat) (d : Drive) : d.stepsOut rate 0 = d := by
  rw [Drive.stepsOut, List.replicate_zero, List.append_nil, Nat.sub_zero]

theorem Drive.stepsOut_succ (rate n : Nat) (d : Drive) : d.stepsOut rate (n + 1) = (d.stepOut rate).stepsOut rate n := by
  have hhead : d.head - (n + 1) = d.head - 1 - n := by omega
  simp only [Drive.stepsOut, Drive.stepOut, Drive.call, hhead, List.replicate_succ, List.append_assoc, List.singleton_append]

/-- The drive after `n` steps inward, one call each. -/
def Drive.stepsIn (rate n : Nat) (d : Drive) : Drive :=
  { d with head := d.head + n, calls := d.calls ++ List.replicate n (.stepIn rate) }

theorem Drive.stepsIn_zero (rate : Nat) (d : Drive) : d.stepsIn rate 0 = d := by
  rw [Drive.stepsIn, List.replicate_zero, List.append_nil, Nat.add_zero]

theorem Drive.stepsIn_succ (rate n : Nat) (d : Drive) : d.stepsIn rate (n + 1) = (d.stepIn rate).stepsIn rate n := by
  have hhead : d.head + (n + 1) = d.head + 1 + n := by omega
  simp only [Drive.stepsIn, Drive.stepIn, Drive.call, hhead, List.replicate_succ, List.append_assoc, List.singleton_append]

theorem Drive.isTrack0_of_working {d : Drive} (h : d.track0Fault = none) : d.isTrack0 = (d.head == 0) := by
  rw [Drive.isTrack0, h]

theorem Drive.isTrack0_of_dead {d : Drive} (h : d.track0Fault = some false) : d.isTrack0 = false := by
  rw [Drive.isTrack0, h]

theorem stepMs_pos (variant : FdcVariant) (command : Byte) : 0 < stepMs variant command := by
  unfold stepMs
  split <;> decide

/-! ### The end of a Type I command (R485, R497) -/

/-- `g` rests in `Idle` with INTRQ raised and busy cleared, the track register and the drive as given. -/
structure Fdc.EndedAt (track : Byte) (drive : Drive) (g : Fdc) : Prop where
  state : g.state = .idle
  intrq : g.intrq = true
  busy : g.busy = false
  track : g.track = track
  drive : g.drive = drive

theorem Fdc.Finished.endedAt {f g : Fdc} (h : f.Finished g) : g.EndedAt f.track f.drive :=
  ⟨h.state, h.intrq, h.busy, h.track, h.drive⟩

theorem Fdc.EndedAt.ticked {g : Fdc} {track : Byte} {drive : Drive} (h : g.EndedAt track drive) (u : Nat) (q : Bool) :
    (g.ticked u q).EndedAt track drive :=
  { h with intrq := by rw [Fdc.ticked, h.intrq, Bool.true_or] }

/-- The settle time of a Type I command: only with V = 1. -/
def Fdc.settleTime (cfg : Config) (f : Fdc) : Nat := if bit f.command 2 then cfg.fdcSettleUs else 0

section
variable {cfg : Config} {f : Fdc}

theorem Fdc.stepDelay_pos (cfg : Config) (f : Fdc) : 0 < f.stepDelay cfg :=
  Nat.mul_pos (stepMs_pos _ _) (by decide)

theorem Fdc.Reaches.verify (htick : cfg.fdcTickUs = 1) (hpos : 0 < cfg.fdcSettleUs) (hstate : f.state = .typeIVerify)
    (fuel : Nat) :
    ∃ g, Fdc.Reaches cfg (f.settleTime cfg) (Fdc.runStates cfg (fuel + 2) f) g ∧ f.Finished g := by
  have hrun : f.runState cfg = f.runTypeIVerify cfg := by rw [Fdc.runState, hstate]
  rw [Fdc.runStates_of_acts (Fdc.not_resting hstate), hrun]
  unfold Fdc.settleTime Fdc.runTypeIVerify
  cases bit f.command 2 with
  | true =>
    rw [if_pos rfl, if_pos rfl, Fdc.runStates_of_resting rfl]
    exact ⟨_, .waitFor htick hpos f .finish, { Fdc.finished_of_finish rfl cfg 7 with }⟩
  | false =>
    rw [if_neg Bool.false_ne_true, if_neg Bool.false_ne_true]
    exact ⟨_, .refl cfg _, { Fdc.finished_of_finish rfl cfg fuel with }⟩

/-! ### Restore (R500) -/

/-- The controller at the check after one step of a Restore. -/
def Fdc.restoreStepped (cfg : Config) (f : Fdc) : Fdc :=
  { f with
    drive := f.drive.stepOut (stepMs cfg.fdcVariant f.command), dir := false, restoreCount := f.restoreCount + 1
    state := .restoreCheck, waitUs := 0, nextState := .restoreCheck }

theorem Fdc.restoreStepped_head (cfg : Config) (f : Fdc) : (f.restoreStepped cfg).drive.head = f.drive.head - 1 := rfl

theorem Fdc.restoreStepped_count (cfg : Config) (h : f.restoreCount.toNat < 255) :
    (f.restoreStepped cfg).restoreCount.toNat = f.restoreCount.toNat + 1 := by
  have hcount : (f.restoreStepped cfg).restoreCount = f.restoreCount + 1 := rfl
  rw [hcount]
  bv_omega

/-- Between two checks of a Restore: one step outward and its delay. -/
theorem Fdc.Reaches.restoreStep (htick : cfg.fdcTickUs = 1) (hstate : f.state = .restoreCheck)
    (hoff : f.drive.isTrack0 = false) (hcount : f.restoreCount.toNat ≠ cfg.fdcRestoreLimit) :
    Fdc.Reaches cfg (f.stepDelay cfg) (Fdc.runStates cfg 8 f) (Fdc.runStates cfg 8 (f.restoreStepped cfg)) := by
  have hcheck : f.runState cfg = { f with state := .restoreStep } := by
    rw [Fdc.runState, hstate]
    simp [Fdc.runRestoreCheck, hoff, hcount]
  rw [Fdc.runStates_of_acts (Fdc.not_resting hstate), hcheck, Fdc.runStates_last rfl rfl rfl]
  exact .waitFor htick (f.stepDelay_pos cfg) _ .restoreCheck

/-- A Restore with a working sensor, `n` tracks out. -/
theorem Fdc.Reaches.restore (htick : cfg.fdcTickUs = 1) (hlimit : cfg.fdcRestoreLimit = 255) (hpos : 0 < cfg.fdcSettleUs)
    (n : Nat) (hstate : f.state = .restoreCheck) (hsensor : f.drive.track0Fault = none) (hhead : f.drive.head = n)
    (hcount : f.restoreCount.toNat + n ≤ 255) :
    ∃ g, Fdc.Reaches cfg (n * f.stepDelay cfg + f.settleTime cfg) (Fdc.runStates cfg 8 f) g ∧
      g.EndedAt 0 (f.drive.stepsOut (stepMs cfg.fdcVariant f.command) n) := by
  induction n generalizing f with
  | zero =>
    have hcheck : f.runState cfg = { f with track := 0, state := .typeIVerify } := by
      rw [Fdc.runState, hstate]
      simp [Fdc.runRestoreCheck, Drive.isTrack0_of_working hsensor, hhead]
    obtain ⟨g, hreach, hg⟩ :=
      Fdc.Reaches.verify htick hpos (f := { f with track := 0, state := .typeIVerify }) rfl 5
    rw [Fdc.runStates_of_acts (Fdc.not_resting hstate), hcheck, Drive.stepsOut_zero, Nat.zero_mul, Nat.zero_add]
    exact ⟨g, hreach, hg.endedAt⟩
  | succ n ih =>
    have hoff : f.drive.isTrack0 = false := by simp [Drive.isTrack0_of_working hsensor, hhead]
    have hstep := Fdc.Reaches.restoreStep htick hstate hoff (by omega)
    have hcounted := Fdc.restoreStepped_count cfg (f := f) (by omega)
    obtain ⟨g, hreach, hg⟩ := ih (f := f.restoreStepped cfg) rfl hsensor (by rw [f.restoreStepped_head, hhead]; rfl)
      (by omega)
    rw [Drive.stepsOut_succ, Nat.succ_mul, Nat.add_comm (n * _), Nat.add_assoc]
    exact ⟨g, hstep.trans hreach, hg⟩

/-- A Restore with V = 1 and a sensor that never reports track 0, `n` steps from the limit. -/
theorem Fdc.Reaches.restore_abandoned (htick : cfg.fdcTickUs = 1) (hlimit : cfg.fdcRestoreLimit = 255) (n : Nat)
    (hstate : f.state = .restoreCheck) (hsensor : f.drive.track0Fault = some false) (hverify : bit f.command 2 = true)
    (hcount : f.restoreCount.toNat + n = 255) :
    ∃ g, Fdc.Reaches cfg (n * f.stepDelay cfg) (Fdc.runStates cfg 8 f) g ∧
      g.EndedAt f.track (f.drive.stepsOut (stepMs cfg.fdcVariant f.command) n) ∧ bit g.status 4 = true := by
  induction n generalizing f with
  | zero =>
    have hcheck : f.runState cfg = { f with status := setBit 8 f.status 4 true, state := .finish } := by
      have hoff := Drive.isTrack0_of_dead hsensor
      have hend : f.restoreCount.toNat = cfg.fdcRestoreLimit := by omega
      rw [Fdc.runState, hstate]
      simp [Fdc.runRestoreCheck, hoff, hend, hverify, Fdc.setStatus]
    have hg := Fdc.finished_of_finish (f := { f with status := setBit 8 f.status 4 true, state := .finish }) rfl cfg 6
    have hraised : bit (setBit 8 f.status 4 true) 4 = true := bit_setBit f.status 4 true 4
    rw [Fdc.runStates_of_acts (Fdc.not_resting hstate), hcheck, Drive.stepsOut_zero, Nat.zero_mul]
    exact ⟨_, .refl cfg _, hg.endedAt, (hg.status 4).trans (congrArg (· && true) hraised)⟩
  | succ n ih =>
    have hstep := Fdc.Reaches.restoreStep htick hstate (Drive.isTrack0_of_dead hsensor) (by omega)
    have hcounted := Fdc.restoreStepped_count cfg (f := f) (by omega)
    obtain ⟨g, hreach, hg⟩ := ih (f := f.restoreStepped cfg) rfl hsensor hverify (by omega)
    rw [Drive.stepsOut_succ, Nat.succ_mul, Nat.add_comm (n * _)]
    exact ⟨g, hstep.trans hreach, hg⟩

end

/-- Settles O51: the update that starts the states, then the induction over the tracks or the steps that are left. -/
theorem restoreConverges : Obligations.RestoreConverges := by
  intro cfg f htick hstate hcount hlimit hpos ms settle
  have hstart : Fdc.Reaches cfg 1 f (Fdc.runStates cfg 8 f) := .run (Fdc.not_resting hstate)
  refine ⟨fun n hsensor hhead hn => ?_, fun hsensor hverify => ?_⟩
  · obtain ⟨g, hreach, hg⟩ := Fdc.Reaches.restore htick hlimit hpos n hstate hsensor hhead (by simp [hcount, hn])
    obtain ⟨u, x, heq⟩ := (hstart.trans hreach).updates_eq
    have htime : n * (ms * 1000) + 1 + settle = 1 + (n * f.stepDelay cfg + f.settleTime cfg) := by
      rw [← Nat.add_assoc, Nat.add_comm 1]
      rfl
    have hend := hg.ticked u x
    rw [← heq, ← htime] at hend
    exact ⟨hend.state, hend.intrq, hend.busy, hend.track, (congrArg Drive.head hend.drive).trans (Nat.sub_eq_zero_of_le (Nat.le_of_eq hhead)),
      congrArg Drive.calls hend.drive⟩
  · obtain ⟨g, hreach, hg, hrnf⟩ := Fdc.Reaches.restore_abandoned htick hlimit 255 hstate hsensor hverify (by simp [hcount])
    obtain ⟨u, x, heq⟩ := (hstart.trans hreach).updates_eq
    have hend := hg.ticked u x
    rw [← heq, Nat.add_comm 1] at hend
    have hbit : bit (g.ticked u x).status 4 = true := hrnf
    rw [← heq, Nat.add_comm 1] at hbit
    exact ⟨hend.state, hend.intrq, hend.busy, hend.track, hbit, congrArg Drive.calls hend.drive⟩

end Sys2Proof.Machine
end

section
/-! PROOFS. Seek and the Step commands (O52): one step of a Seek as a run from one check of the states to the next, by
induction over the tracks that are left. -/

namespace Sys2Proof.Machine

/-- One step in the direction `inward`. -/
def Drive.step (inward : Bool) (rate : Nat) (d : Drive) : Drive := if inward then d.stepIn rate else d.stepOut rate

/-! ### Seek (R501) -/

section
variable {cfg : Config} {f : Fdc}

theorem Fdc.runStates_seekCheck_there (hstate : f.state = .seekCheck) (h : f.track = f.data) (fuel : Nat) :
    Fdc.runStates cfg (fuel + 1) f = Fdc.runStates cfg fuel { f with state := .typeIVerify } := by
  rw [Fdc.runStates_of_acts (Fdc.not_resting hstate), Fdc.runState, hstate]
  simp [Fdc.runSeekCheck, h]

theorem Fdc.runStates_seekCheck_away (hstate : f.state = .seekCheck) (h : f.track ≠ f.data) (fuel : Nat) :
    Fdc.runStates cfg (fuel + 2) f = Fdc.runStates cfg fuel (({ f with state := .seekStep } : Fdc).runSeekStep cfg) := by
  have hcheck : f.runState cfg = { f with state := .seekStep } := by
    rw [Fdc.runState, hstate]
    simp [Fdc.runSeekCheck, h]
  rw [Fdc.runStates_of_acts (Fdc.not_resting hstate), hcheck, Fdc.runStates_of_acts rfl]
  rfl

/-- The controller at the check after one step of a Seek: the track register has followed the head. -/
def Fdc.seekStepped (cfg : Config) (inward : Bool) (f : Fdc) : Fdc :=
  { f with
    drive := f.drive.step inward (stepMs cfg.fdcVariant f.command), dir := inward
    track := if inward then f.track + 1 else f.track - 1, state := .seekCheck, waitUs := 0, nextState := .seekUpdate }

/-- Between two checks of a Seek: one step toward the goal and its delay. -/
theorem Fdc.Reaches.seekStep (htick : cfg.fdcTickUs = 1) (hstate : f.state = .seekCheck) (haway : f.track ≠ f.data)
    {inward : Bool} (hdir : inward = decide (f.track < f.data)) (hoff : inward = false → f.drive.isTrack0 = false)
    (fuel : Nat) :
    Fdc.Reaches cfg (f.stepDelay cfg) (Fdc.runStates cfg (fuel + 2) f) (Fdc.runStates cfg 7 (f.seekStepped cfg inward)) := by
  have hstep : ({ f with state := .seekStep } : Fdc).runSeekStep cfg =
      ({ f with
        drive := f.drive.step inward (stepMs cfg.fdcVariant f.command), dir := inward, state := .seekStep } : Fdc).waitFor
        (f.stepDelay cfg) .seekUpdate := by
    cases inward with
    | true =>
      rw [Fdc.runSeekStep, if_pos (of_decide_eq_true hdir.symm)]
      rfl
    | false =>
      rw [Fdc.runSeekStep, if_neg (of_decide_eq_false hdir.symm), hoff rfl]
      rfl
  rw [Fdc.runStates_seekCheck_away hstate haway, hstep, Fdc.runStates_of_resting rfl]
  exact .waitFor htick (f.stepDelay_pos cfg) _ .seekUpdate

/-- A Seek that has arrived. -/
theorem Fdc.Reaches.seek_there (htick : cfg.fdcTickUs = 1) (hpos : 0 < cfg.fdcSettleUs) (hstate : f.state = .seekCheck)
    (h : f.track = f.data) (fuel : Nat) :
    ∃ g, Fdc.Reaches cfg (f.settleTime cfg) (Fdc.runStates cfg (fuel + 3) f) g ∧ g.EndedAt f.data f.drive := by
  obtain ⟨g, hreach, hg⟩ := Fdc.Reaches.verify htick hpos (f := { f with state := .typeIVerify }) rfl fuel
  rw [Fdc.runStates_seekCheck_there hstate h]
  refine ⟨g, hreach, ?_⟩
  rw [← h]
  exact hg.endedAt

/-- A Seek inward, `n` tracks from its goal. -/
theorem Fdc.Reaches.seekIn (htick : cfg.fdcTickUs = 1) (hpos : 0 < cfg.fdcSettleUs) (n : Nat)
    (hstate : f.state = .seekCheck) (haway : f.data.toNat = f.track.toNat + n) (fuel : Nat) :
    ∃ g, Fdc.Reaches cfg (n * f.stepDelay cfg + f.settleTime cfg) (Fdc.runStates cfg (fuel + 4) f) g ∧
      g.EndedAt f.data (f.drive.stepsIn (stepMs cfg.fdcVariant f.command) n) := by
  induction n generalizing f fuel with
  | zero =>
    rw [Drive.stepsIn_zero, Nat.zero_mul, Nat.zero_add]
    exact Fdc.Reaches.seek_there htick hpos hstate (by bv_omega) (fuel + 1)
  | succ n ih =>
    have hlt : f.track < f.data := by bv_omega
    have hstep := Fdc.Reaches.seekStep htick hstate (by bv_omega) (decide_eq_true hlt).symm nofun (fuel + 2)
    obtain ⟨g, hreach, hg⟩ := ih (f := f.seekStepped cfg true) rfl
      (by simp only [Fdc.seekStepped, if_true]; bv_omega) 3
    rw [Drive.stepsIn_succ, Nat.succ_mul, Nat.add_comm (n * _), Nat.add_assoc]
    exact ⟨g, hstep.trans hreach, hg⟩

/-- A Seek outward with a working sensor, `n` tracks from its goal: it ends at the goal or at track 0. -/
theorem Fdc.Reaches.seekOut (htick : cfg.fdcTickUs = 1) (hpos : 0 < cfg.fdcSettleUs) (n : Nat)
    (hstate : f.state = .seekCheck) (hsensor : f.drive.track0Fault = none) (haway : f.track.toNat = f.data.toNat + n)
    (fuel : Nat) :
    ∃ g, Fdc.Reaches cfg (min n f.drive.head * f.stepDelay cfg + f.settleTime cfg) (Fdc.runStates cfg (fuel + 4) f) g ∧
      g.EndedAt (if n ≤ f.drive.head then f.data else 0)
        (f.drive.stepsOut (stepMs cfg.fdcVariant f.command) (min n f.drive.head)) := by
  induction n generalizing f fuel with
  | zero =>
    rw [Nat.zero_min, Drive.stepsOut_zero, Nat.zero_mul, Nat.zero_add, if_pos (Nat.zero_le _)]
    exact Fdc.Reaches.seek_there htick hpos hstate (by bv_omega) (fuel + 1)
  | succ n ih =>
    have hge : ¬ f.track < f.data := by bv_omega
    have haway' : f.track ≠ f.data := by bv_omega
    cases hhead : f.drive.head with
    | zero =>
      have h0 : f.drive.isTrack0 = true := by simp [Drive.isTrack0_of_working hsensor, hhead]
      have hstep : ({ f with state := .seekStep } : Fdc).runSeekStep cfg = { f with track := 0, state := .typeIVerify } := by
        rw [Fdc.runSeekStep, if_neg hge, if_pos h0]
      obtain ⟨g, hreach, hg⟩ :=
        Fdc.Reaches.verify htick hpos (f := { f with track := 0, state := .typeIVerify }) rfl fuel
      rw [Fdc.runStates_seekCheck_away hstate haway', hstep, Nat.min_zero, Drive.stepsOut_zero, Nat.zero_mul, Nat.zero_add,
        if_neg (Nat.not_succ_le_zero n)]
      exact ⟨g, hreach, hg.endedAt⟩
    | succ head =>
      have hoff : f.drive.isTrack0 = false := by simp [Drive.isTrack0_of_working hsensor, hhead]
      have hstep := Fdc.Reaches.seekStep htick hstate haway' (decide_eq_false hge).symm (fun _ => hoff) (fuel + 2)
      have hmoved : (f.seekStepped cfg false).drive.head = head := congrArg (· - 1) hhead
      obtain ⟨g, hreach, hg⟩ := ih (f := f.seekStepped cfg false) rfl hsensor
        (by simp only [Fdc.seekStepped, Bool.false_eq_true, if_false]; bv_omega) 3
      rw [hmoved] at hreach hg
      rw [Nat.succ_min_succ, Drive.stepsOut_succ, Nat.succ_mul, Nat.add_comm (_ * _), Nat.add_assoc]
      simp only [Nat.succ_le_succ_iff]
      exact ⟨g, hstep.trans hreach, hg⟩

/-! ### Step, Step-In and Step-Out (R505) -/

/-- A step outward at track 0 makes no call. -/
theorem Fdc.Reaches.stepOnce_at_track0 (htick : cfg.fdcTickUs = 1) (hpos : 0 < cfg.fdcSettleUs)
    (hstate : f.state = .stepOnce) (hdir : f.dir = false) (h0 : f.drive.isTrack0 = true) :
    ∃ g, Fdc.Reaches cfg (f.settleTime cfg) (Fdc.runStates cfg 8 f) g ∧ g.EndedAt 0 f.drive := by
  have hrun : f.runState cfg = { f with track := 0, state := .typeIVerify } := by
    rw [Fdc.runState, hstate]
    simp [Fdc.runStepOnce, hdir, h0]
  obtain ⟨g, hreach, hg⟩ := Fdc.Reaches.verify htick hpos (f := { f with track := 0, state := .typeIVerify }) rfl 5
  rw [Fdc.runStates_of_acts (Fdc.not_resting hstate), hrun]
  exact ⟨g, hreach, hg.endedAt⟩

/-- The controller whose head has taken one step in the direction it holds. -/
def Fdc.headMoved (cfg : Config) (f : Fdc) : Fdc :=
  { f with drive := f.drive.step f.dir (stepMs cfg.fdcVariant f.command) }

/-- Any other step: one call, its delay, and the track register after it if u = 1. -/
theorem Fdc.Reaches.stepOnce (htick : cfg.fdcTickUs = 1) (hpos : 0 < cfg.fdcSettleUs)
    (hstate : f.state = .stepOnce) (h : f.dir = true ∨ f.drive.isTrack0 = false) :
    ∃ g, Fdc.Reaches cfg (f.stepDelay cfg + f.settleTime cfg) (Fdc.runStates cfg 8 f) g ∧ g.dir = f.dir ∧
      g.EndedAt (if bit f.command 4 then f.moveTrack else f.track)
        (f.drive.step f.dir (stepMs cfg.fdcVariant f.command)) := by
  have hrun : f.runState cfg = (f.headMoved cfg).waitFor (f.stepDelay cfg) .stepUpdate := by
    have hgoes : (!f.dir && f.drive.isTrack0) = false := by
      obtain h | h := h <;> simp [h]
    have hmoved : (if f.dir then f.driveIn cfg else f.driveOut cfg) = f.headMoved cfg := by
      unfold Fdc.headMoved Drive.step
      split <;> rfl
    have haction : f.runState cfg = f.runStepOnce cfg := by rw [Fdc.runState, hstate]
    rw [haction, Fdc.runStepOnce, hgoes, if_neg Bool.false_ne_true, hmoved]
  have hdelay := Fdc.Reaches.waitFor htick (f.stepDelay_pos cfg) (f.headMoved cfg) .stepUpdate
  rw [Fdc.runStates_of_acts rfl] at hdelay
  obtain ⟨g, hreach, hg⟩ := Fdc.Reaches.verify htick hpos (f := { f.headMoved cfg with
    track := if bit f.command 4 then f.moveTrack else f.track
    state := .typeIVerify, waitUs := 0, nextState := .stepUpdate }) rfl 5
  rw [Fdc.runStates_last (Fdc.not_resting hstate) hrun rfl]
  exact ⟨g, hdelay.trans hreach, hg.dir, hg.endedAt⟩

end

/-- Settles O52: the update that starts the states, then the tracks of a Seek or the one step of a Step command. -/
theorem seekAndStep : Obligations.SeekAndStep := by
  intro cfg f htick hsensor hpos ms settle
  have hstart (h : f.resting = false) : Fdc.Reaches cfg 1 f (Fdc.runStates cfg 8 f) := .run h
  have htime (n : Nat) : 1 + (n * f.stepDelay cfg + f.settleTime cfg) = n * (ms * 1000) + 1 + settle := by
    rw [← Nat.add_assoc, Nat.add_comm 1]
    rfl
  refine ⟨fun n hstate haway => ?_, fun n hstate haway => ?_, fun hstate => ⟨fun hdir hhead => ?_, fun h => ?_⟩⟩
  · obtain ⟨g, hreach, hg⟩ := Fdc.Reaches.seekIn htick hpos n hstate haway 4
    obtain ⟨u, x, heq⟩ := ((hstart (Fdc.not_resting hstate)).trans hreach).updates_eq
    have hend := hg.ticked u x
    rw [← heq, htime] at hend
    exact ⟨hend.state, hend.intrq, hend.busy, hend.track, congrArg Drive.head hend.drive, congrArg Drive.calls hend.drive⟩
  · intro k
    obtain ⟨g, hreach, hg⟩ := Fdc.Reaches.seekOut htick hpos n hstate hsensor haway 4
    obtain ⟨u, x, heq⟩ := ((hstart (Fdc.not_resting hstate)).trans hreach).updates_eq
    have hend := hg.ticked u x
    rw [← heq, htime] at hend
    exact ⟨hend.state, hend.intrq, hend.busy, hend.track, congrArg Drive.head hend.drive, congrArg Drive.calls hend.drive⟩
  · have h0 : f.drive.isTrack0 = true := by simp [Drive.isTrack0_of_working hsensor, hhead]
    obtain ⟨g, hreach, hg⟩ := Fdc.Reaches.stepOnce_at_track0 htick hpos hstate hdir h0
    obtain ⟨u, x, heq⟩ := ((hstart (Fdc.not_resting hstate)).trans hreach).updates_eq
    have hend := hg.ticked u x
    rw [← heq] at hend
    exact ⟨hend.state, hend.intrq, hend.busy, hend.track, hend.drive⟩
  · have hgoes : f.dir = true ∨ f.drive.isTrack0 = false := by
      refine h.imp_right fun hhead => ?_
      simp [Drive.isTrack0_of_working hsensor, Nat.ne_of_gt hhead]
    obtain ⟨g, hreach, hdir, hg⟩ := Fdc.Reaches.stepOnce htick hpos hstate hgoes
    obtain ⟨u, x, heq⟩ := ((hstart (Fdc.not_resting hstate)).trans hreach).updates_eq
    have hend := hg.ticked u x
    have hkept : (g.ticked u x).dir = f.dir := hdir
    have hsum : 1 + (f.stepDelay cfg + f.settleTime cfg) = ms * 1000 + 1 + settle := by
      rw [← Nat.add_assoc, Nat.add_comm 1]
      rfl
    rw [← heq, hsum] at hend hkept
    refine ⟨hend.state, hend.intrq, hend.busy, hkept, hend.track, ?_, ?_⟩
    · rw [hend.drive, Drive.step]
      cases f.dir <;> rfl
    · rw [hend.drive, Drive.step]
      cases f.dir <;> rfl

end Sys2Proof.Machine
end

section
/-! PROOFS. The Tube's status, control and latches (O55 to O57): the bits of a status byte, the six control bits after a write
of register 0, and the one-byte directions, whose accesses are latch updates followed by the recomputation of the lines. -/

namespace Sys2Proof.Machine

/-! ### Status reads and ignored writes (R176, R552, R554, R583) -/

/-- A status byte from bit 7 down: `available`, `not_full`, and the six low bits (R176). -/
theorem Latch.bit_status (l : Latch) (low : BitVec 6) (k : Fin 8) :
    bit (l.status low) k.val =
      if k.val = 7 then l.available else if k.val = 6 then l.notFull else low.getLsbD k.val := by
  -- `getLsbD_append` applies only where the width is written as the sum the appends give.
  change BitVec.getLsbD (w := 1 + 1 + 6) (_ ++ _) k.val = _
  simp only [BitVec.getLsbD_append, BitVec.getLsbD_ofBool]
  match k with
  | 0 | 1 | 2 | 3 | 4 | 5 | 6 | 7 => rfl

/-- Settles O55: each access is its register function (by `rfl`), and the status byte is read bit by bit. -/
theorem tubeStatusAndIgnored : Obligations.TubeStatusAndIgnored := by
  intro v s
  refine ⟨rfl, rfl, rfl, rfl, rfl, rfl, rfl, rfl, rfl, rfl, rfl, rfl, rfl, rfl, rfl, fun l low => ?_⟩
  have hbit := l.bit_status low
  refine ⟨hbit 7, hbit 6, fun k => ?_⟩
  have h7 : k.val ≠ 7 := by omega
  have h6 : k.val ≠ 6 := by omega
  exact (hbit ⟨k, by omega⟩).trans ((if_neg h7).trans (if_neg h6))

/-! ### The control register (R553, R581) -/

/-- The Tube with its control bits set or cleared as a write of register 0 names them, the FIFOs cleared if T is set (R553):
what `hostWrite0` recomputes the lines of. -/
theorem Tube.hostWrite0_eq (cfg : Config) (d : Byte) (t : Tube) :
    t.hostWrite0 cfg d = ({ (if bit d 7 = true ∧ bit d 6 = true then t.clear else t) with
      tstat := if bit d 7 then t.tstat ||| d.setWidth 6 else t.tstat &&& ~~~d.setWidth 6 } : Tube).recompute cfg := by
  unfold Tube.hostWrite0
  simp only [Bool.and_eq_true]
  split <;> rfl

/-- A control bit after a write of register 0 (R553). -/
theorem Tube.getLsbD_hostWrite0_tstat (cfg : Config) (d : Byte) (t : Tube) (k : Fin 6) :
    (t.hostWrite0 cfg d).tstat.getLsbD k.val =
      if bit d 7 then t.tstat.getLsbD k.val || bit d k.val else t.tstat.getLsbD k.val && !bit d k.val := by
  have hnamed : (d.setWidth 6).getLsbD k.val = bit d k.val := by simp [bit]
  rw [Tube.hostWrite0_eq, ← hnamed]
  cases hset : bit d 7 <;> simp [Tube.recompute]

/-- Settles O56: the control bits one by one, and the rest of the Tube as `hostWrite0_eq` gives it with and without T. -/
theorem tubeControl : Obligations.TubeControl := by
  intro v s
  refine ⟨s.tube.hostWrite0 s.cfg v, rfl, s.tube.getLsbD_hostWrite0_tstat s.cfg v, ?_, fun hclear => ?_, fun hkeep => ?_⟩
  · rw [Tube.hostWrite0_eq]
    rfl
  · rw [Tube.hostWrite0_eq, if_pos hclear]
    rfl
  · rw [Tube.hostWrite0_eq, if_neg hkeep]
    rfl

/-! ### The one-byte directions (R557, R560 to R564, R572 to R575) -/

/-- Settles O57, by `rfl` for each access: its register function is the latch updates `full`, `offer`, `take` and `free`,
which the statement writes out. -/
theorem tubeLatches : Obligations.TubeLatches :=
  fun _ _ => ⟨rfl, rfl, rfl, rfl, rfl, rfl, rfl, rfl, rfl, rfl⟩

end Sys2Proof.Machine
end

section
/-! PROOFS. Channel 1 of the Tube to the host (O58): the ring buffer's places modulo its depth, the list of its waiting bytes
under a write and a read, and the two flags as functions of that list. -/

namespace Sys2Proof.Machine

/-! ### The places of the ring buffer (R556, R558) -/

section
variable {w depth back : Nat}

/-- The place `back + 1` before the next write index is the place `back` before this one. -/
theorem ringPlace_succ (hw : w < depth) (hback : back < depth) :
    ((w + 1) % depth + depth - (back + 1)) % depth = (w + depth - back) % depth := by
  obtain hlast | hin : w + 1 = depth ∨ w + 1 < depth := by omega
  · have hplace : w + depth - back = depth - (back + 1) + depth := by omega
    rw [hlast, Nat.mod_self, Nat.zero_add, hplace, Nat.add_mod_right]
  · rw [Nat.mod_eq_of_lt hin]
    congr 1
    omega

/-- The place the write index stands at is the one before the next write index. -/
theorem ringPlace_last (hw : w < depth) : ((w + 1) % depth + depth - 1) % depth = w := by
  rw [ringPlace_succ (back := 0) hw (by omega), Nat.sub_zero, Nat.add_mod_right, Nat.mod_eq_of_lt hw]

/-- Fewer than `depth` places back, and at least one, is not the write index. -/
theorem ringPlace_ne (hw : w < depth) (hpos : 0 < back) (hback : back < depth) : w ≠ (w + depth - back) % depth := by
  obtain hwrap | hbelow : back ≤ w ∨ w < back := by omega
  · have hplace : w + depth - back = w - back + depth := by omega
    rw [hplace, Nat.add_mod_right, Nat.mod_eq_of_lt (by omega)]
    omega
  · rw [Nat.mod_eq_of_lt (by omega)]
    omega

end

/-! ### The bytes waiting in the ring buffer -/

@[simp] theorem Tube.ring_length (cfg : Config) (t : Tube) : (t.ring cfg).length = t.p2h1Count := by
  simp [Tube.ring]

theorem Tube.ring_eq_nil_iff (cfg : Config) (t : Tube) : t.ring cfg = [] ↔ t.p2h1Count = 0 := by
  rw [← List.length_eq_zero_iff, Tube.ring_length]

/-- The flags and the lines are no part of the ring. -/
@[simp] theorem Tube.ring_recompute_ringFlags (cfg : Config) (t : Tube) :
    ((t.ringFlags cfg).recompute cfg).ring cfg = t.ring cfg := rfl

/-- The oldest of the waiting bytes stands as many places back as there are bytes. -/
theorem Tube.ring_cons {cfg : Config} {t : Tube} (h : 0 < t.p2h1Count) :
    t.ringByte cfg t.p2h1Count :: ({ t with p2h1Count := t.p2h1Count - 1 } : Tube).ring cfg = t.ring cfg := by
  obtain ⟨n, hcount⟩ := Nat.exists_eq_add_one.mpr h
  simp [Tube.ring, Tube.ringByte, hcount, List.range_succ_eq_map]

/-- The ring with a byte stored at the write index. -/
def Tube.ringStored (cfg : Config) (d : Byte) (t : Tube) : Tube :=
  { t with
    p2h1 := t.p2h1.set t.p2h1Wr d
    p2h1Wr := (t.p2h1Wr + 1) % cfg.tubeDepth
    p2h1Count := t.p2h1Count + 1 }

/-- The byte stored is the newest of the waiting bytes, and the others keep their order. -/
theorem Tube.ring_ringStored {cfg : Config} {t : Tube} (d : Byte) (hsize : t.p2h1.length = cfg.tubeDepth)
    (hwr : t.p2h1Wr < cfg.tubeDepth) (hroom : t.p2h1Count < cfg.tubeDepth) :
    (t.ringStored cfg d).ring cfg = t.ring cfg ++ [d] := by
  have hnewest : (t.ringStored cfg d).ringByte cfg 1 = d := by
    simp [Tube.ringByte, Tube.ringStored, ringPlace_last hwr, hsize, hwr]
  have hkept : ∀ back, 0 < back → back < cfg.tubeDepth →
      (t.ringStored cfg d).ringByte cfg (back + 1) = t.ringByte cfg back := by
    intro back hpos hback
    simp [Tube.ringByte, Tube.ringStored, ringPlace_succ hwr hback, List.getElem?_set_ne (ringPlace_ne hwr hpos hback)]
  have hcount : (t.ringStored cfg d).p2h1Count = t.p2h1Count + 1 := rfl
  rw [Tube.ring, hcount, List.range_succ, List.map_append, List.map_singleton, Nat.add_sub_cancel_left, hnewest]
  congr 1
  refine List.map_congr_left fun k hk => ?_
  have hk : k < t.p2h1Count := List.mem_range.mp hk
  rw [Nat.succ_sub hk.le, hkept _ (by omega) (by omega)]

/-! ### Accesses of channel 1's ring buffer (R556, R558, R559) -/

/-- What both accesses end with: the flags are those of the bytes waiting, and the lines are recomputed (R556, R580). -/
structure Tube.RingSettled (cfg : Config) (t : Tube) : Prop where
  available : t.h1.available = decide (t.ring cfg ≠ [])
  notFull : t.p1.notFull = decide ((t.ring cfg).length < cfg.tubeDepth)
  lines : t.recompute cfg = t

theorem Tube.ringSettled_recompute_ringFlags (cfg : Config) (t : Tube) :
    ((t.ringFlags cfg).recompute cfg).RingSettled cfg where
  available := decide_eq_decide.mpr (Nat.pos_iff_ne_zero.trans (Tube.ring_eq_nil_iff cfg t).not.symm)
  notFull := by
    rw [Tube.ring_recompute_ringFlags, Tube.ring_length]
    rfl
  lines := rfl

/-- A parasite write of register 1 when there is room. -/
theorem Tube.parasiteWrite1_of_room {cfg : Config} {t : Tube} (d : Byte) (h : t.p2h1Count < cfg.tubeDepth) :
    t.parasiteWrite1 cfg d = ((t.ringStored cfg d).ringFlags cfg).recompute cfg := by
  rw [Tube.parasiteWrite1, if_pos h]
  rfl

/-- A parasite write of register 1 to a full ring. -/
theorem Tube.parasiteWrite1_of_full {cfg : Config} {t : Tube} (d : Byte) (h : ¬ t.p2h1Count < cfg.tubeDepth) :
    t.parasiteWrite1 cfg d = (t.ringFlags cfg).recompute cfg := by
  rw [Tube.parasiteWrite1, if_neg h]

theorem Tube.hostRead1_of_waiting {cfg : Config} {t : Tube} (h : 0 < t.p2h1Count) :
    t.hostRead1 cfg = (t.ringByte cfg t.p2h1Count,
      (({ t with p2h1Count := t.p2h1Count - 1 } : Tube).ringFlags cfg).recompute cfg) := by
  rw [Tube.hostRead1, if_pos h]

theorem Tube.hostRead1_of_empty {cfg : Config} {t : Tube} (h : ¬ 0 < t.p2h1Count) :
    t.hostRead1 cfg = (t.ringByte cfg 1, (t.ringFlags cfg).recompute cfg) := by
  rw [Tube.hostRead1, if_neg h]

/-- Settles O58: a write with room and to a full ring, a read of waiting bytes and of an empty ring. -/
theorem tubeRing : Obligations.TubeRing := by
  intro d s hdepth hsize hwr hcount
  constructor
  · refine ⟨s.tube.parasiteWrite1 s.cfg d, rfl, ?_⟩
    by_cases hroom : s.tube.p2h1Count < s.cfg.tubeDepth
    · rw [Tube.parasiteWrite1_of_room d hroom, if_pos hroom]
      have hend := Tube.ringSettled_recompute_ringFlags s.cfg (s.tube.ringStored s.cfg d)
      exact ⟨Tube.ring_ringStored d hsize hwr hroom, hend.available, hend.notFull, hend.lines,
        List.length_set.trans hsize, Nat.mod_lt _ hdepth, rfl⟩
    · rw [Tube.parasiteWrite1_of_full d hroom, if_neg hroom]
      have hend := Tube.ringSettled_recompute_ringFlags s.cfg s.tube
      exact ⟨rfl, hend.available, hend.notFull, hend.lines, hsize, hwr, rfl⟩
  · refine ⟨(s.tube.hostRead1 s.cfg).1, (s.tube.hostRead1 s.cfg).2, rfl, ?_⟩
    rw [ne_eq, Tube.ring_eq_nil_iff]
    by_cases hwaiting : 0 < s.tube.p2h1Count
    · rw [Tube.hostRead1_of_waiting hwaiting]
      have hend := Tube.ringSettled_recompute_ringFlags s.cfg { s.tube with p2h1Count := s.tube.p2h1Count - 1 }
      exact ⟨fun _ => Tube.ring_cons hwaiting, fun hnone => absurd hnone hwaiting.ne', hend.available, hend.notFull,
        hend.lines, rfl⟩
    · rw [Tube.hostRead1_of_empty hwaiting]
      have hend := Tube.ringSettled_recompute_ringFlags s.cfg s.tube
      exact ⟨fun hsome => absurd (Nat.pos_of_ne_zero hsome) hwaiting,
        fun hnone => ⟨(Tube.ring_eq_nil_iff s.cfg s.tube).mpr hnone, rfl⟩, hend.available, hend.notFull, hend.lines, rfl⟩

end Sys2Proof.Machine
end

section
/-! PROOFS. Channel 3 of the Tube (O59): what a write and a read do to one direction, which both sides share, and the Tube
with that direction put back. -/

namespace Sys2Proof.Machine

/-! ### One direction (R565, R566, R586) -/

/-- The two latches serve both directions of the channel: an access of one leaves the bits that belong to the other. -/
structure Ch3.KeepsOther (c c' : Ch3) : Prop where
  producer : c'.producer.available = c.producer.available
  consumer : c'.consumer.notFull = c.consumer.notFull

/-- One direction before and after a write of `d`: which bytes wait, and the two flags, which flip unless the byte is the
first of two (R566). -/
structure Ch3.Written (twoByte : Bool) (d : Byte) (c c' : Ch3) : Prop where
  waiting : c'.pair.waiting = if twoByte then (c.pair.waiting ++ [d]).take 2 else [d]
  count : c'.pair.count = c'.pair.waiting.length
  available : c'.consumer.available = if twoByte ∧ c.pair.count = 0 then c.consumer.available else true
  notFull : c'.producer.notFull = if twoByte ∧ c.pair.count = 0 then c.producer.notFull else false
  other : c.KeepsOther c'

/-- One direction before and after a read of `x`, the oldest of its bytes (R566). -/
structure Ch3.Taken (x : Byte) (c c' : Ch3) : Prop where
  waiting : x :: c'.pair.waiting = c.pair.waiting
  count : c'.pair.count = c.pair.count - 1
  notFull : c'.producer.notFull = true
  available : c'.consumer.available = if c.pair.count = 1 then false else c.consumer.available
  other : c.KeepsOther c'

/-- A write in either mode, to a direction with none, one or two bytes in. -/
theorem Ch3.written {c : Ch3} (h : c.pair.count ≤ 2) (twoByte : Bool) (d : Byte) :
    Ch3.Written twoByte d c (c.write twoByte d) := by
  obtain ⟨⟨b0, b1, n⟩, p, q⟩ := c
  cases twoByte with
  | false => exact ⟨rfl, rfl, rfl, rfl, rfl, rfl⟩
  | true =>
    match n, h with
    | 0, _ | 1, _ | 2, _ => exact ⟨rfl, rfl, rfl, rfl, rfl, rfl⟩

/-- A read of a direction with one or two bytes in. -/
theorem Ch3.taken {c : Ch3} (h : c.pair.count ≤ 2) (hsome : c.pair.count ≠ 0) (dummy : Byte) :
    Ch3.Taken (c.read dummy).1 c (c.read dummy).2 := by
  obtain ⟨⟨b0, b1, n⟩, p, q⟩ := c
  match n, h, hsome with
  | 1, _, _ | 2, _, _ => exact ⟨rfl, rfl, rfl, rfl, rfl, rfl⟩

/-- A read of an empty direction answers the sentinel and changes nothing (R586). -/
theorem Ch3.read_of_empty {c : Ch3} (h : c.pair.count = 0) (dummy : Byte) : c.read dummy = (dummy, c) := by
  rw [Ch3.read, if_pos h]

/-! ### The two directions in the Tube (R567 to R570) -/

/-- After an access of the host-to-parasite direction the Tube differs in that direction and the lines alone. -/
theorem Tube.recompute_setDown3 {t : Tube} {c : Ch3} (h : t.down3.KeepsOther c) (cfg : Config) :
    let u := (t.setDown3 c).recompute cfg
    u = { t with
      h2p3 := u.h2p3, p3 := { t.p3 with available := u.p3.available }, h3 := { t.h3 with notFull := u.h3.notFull }
      hirq := u.hirq, pirq := u.pirq, pnmi := u.pnmi } := by
  obtain ⟨pair, ⟨available, notFull⟩, ⟨available', notFull'⟩⟩ := c
  obtain rfl : available = t.h3.available := h.producer
  obtain rfl : notFull' = t.p3.notFull := h.consumer
  rfl

/-- After an access of the parasite-to-host direction the Tube differs in that direction and the lines alone. -/
theorem Tube.recompute_setUp3 {t : Tube} {c : Ch3} (h : t.up3.KeepsOther c) (cfg : Config) :
    let u := (t.setUp3 c).recompute cfg
    u = { t with
      p2h3 := u.p2h3, h3 := { t.h3 with available := u.h3.available }, p3 := { t.p3 with notFull := u.p3.notFull }
      hirq := u.hirq, pirq := u.pirq, pnmi := u.pnmi } := by
  obtain ⟨pair, ⟨available, notFull⟩, ⟨available', notFull'⟩⟩ := c
  obtain rfl : available = t.p3.available := h.producer
  obtain rfl : notFull' = t.h3.notFull := h.consumer
  rfl

/-- Settles O59: each access is one of its direction, put back into the Tube. -/
theorem tubeChannel3 : Obligations.TubeChannel3 := by
  intro d s hdown hup
  refine ⟨⟨s.tube.hostWrite5 s.cfg d, rfl, ?hostWrite⟩,
    ⟨(s.tube.parasiteRead5 s.cfg).1, (s.tube.parasiteRead5 s.cfg).2, rfl, fun hnone => ?parasiteReadEmpty,
      fun hsome => ?parasiteRead⟩,
    ⟨s.tube.parasiteWrite5 s.cfg d, rfl, ?parasiteWrite⟩,
    ⟨(s.tube.hostRead5 s.cfg).1, (s.tube.hostRead5 s.cfg).2, rfl, fun hnone => ?hostReadEmpty,
      fun hsome => ?hostRead⟩,
    rfl, rfl⟩
  case hostWrite =>
    have hw := Ch3.written (c := s.tube.down3) hdown s.tube.v d
    exact ⟨hw.waiting, hw.count, hw.available, hw.notFull, rfl, Tube.recompute_setDown3 hw.other s.cfg⟩
  case parasiteReadEmpty =>
    rw [Tube.parasiteRead5, Ch3.read_of_empty (c := s.tube.down3) hnone]
    exact ⟨rfl, rfl⟩
  case parasiteRead =>
    have hr := Ch3.taken (c := s.tube.down3) hdown hsome s.cfg.tubeDummyParasite
    exact ⟨hr.waiting, hr.count, hr.notFull, hr.available, rfl, Tube.recompute_setDown3 hr.other s.cfg⟩
  case parasiteWrite =>
    have hw := Ch3.written (c := s.tube.up3) hup s.tube.v d
    exact ⟨hw.waiting, hw.count, hw.available, hw.notFull, rfl, Tube.recompute_setUp3 hw.other s.cfg⟩
  case hostReadEmpty =>
    rw [Tube.hostRead5, Ch3.read_of_empty (c := s.tube.up3) hnone]
    exact ⟨rfl, rfl⟩
  case hostRead =>
    have hr := Ch3.taken (c := s.tube.up3) hup hsome s.cfg.tubeDummyHost
    exact ⟨hr.waiting, hr.count, hr.notFull, hr.available, rfl, Tube.recompute_setUp3 hr.other s.cfg⟩

end Sys2Proof.Machine
end

section
/-! PROOFS. The interrupt and reset sequences (O18, O19, O20) and the return that undoes an entry (O24): the two discarded
reads all three begin with, then for IRQ and NMI the shared entry, for a reset one run of read cycles. -/

namespace Sys2Proof.Machine

/-! ### The registers after a run of reads, and what continues it -/

section
variable {s t : State} {cycles : List BusCycle} {r : Regs}

theorem ReadRun.sp (h : ReadRun s cycles r t) : t.cpu.s = r.s := congrArg Regs.s h.regs

theorem ReadRun.pc (h : ReadRun s cycles r t) : t.cpu.pc = r.pc := congrArg Regs.pc h.regs

theorem ReadRun.p (h : ReadRun s cycles r t) : t.cpu.p = r.p := congrArg Regs.p h.regs

theorem ReadRun.setOpnd (h : ReadRun s cycles r t) (v : Byte) : ReadRun s cycles r (t.setOpnd v) :=
  h.congr h.regs rfl rfl rfl rfl

/-- A suppressed push reads where a push would write (R608). -/
theorem ReadRun.suppressedPush (h : ReadRun s cycles r t) :
    ∃ d, ReadRun s (cycles ++ [⟨stackAt s.cfg r.s, d, true⟩]) { r with s := r.s - 1 } (suppressedPush t) := by
  have haddr : stackAddr t = stackAt s.cfg r.s := by rw [stackAddr, h.cfg, h.sp, stackAt]
  have hread := h.read (stackAddr t)
  have hdown := hread.setS ((readCycle (stackAddr t) t).2.cpu.s - 1)
  rw [hread.sp, haddr] at hdown
  rw [Machine.suppressedPush, discardCycle, hread.sp, haddr]
  exact ⟨_, hdown⟩

/-- The vector's two bytes end a sequence of reads. -/
theorem ReadRun.enterVector (h : ReadRun s cycles r t) (vec : Word) :
    ∃ u lo hi, enterVector vec t = .next u ∧
      ReadRun s (cycles ++ [⟨vec, lo, true⟩] ++ [⟨vec + 1, hi, true⟩])
        { r with pc := mkWord hi lo, p := { r.p with i := true } } u ∧ AtBoundary u := by
  have hlow := h.read vec
  generalize hq : readCycle vec t = q at hlow
  have hread := ((hlow.setOpnd q.1).setP { r.p with i := true }).read (vec + 1)
  obtain ⟨u, hnext, hrun, hend⟩ := (hread.setPc (mkWord _ q.1)).finish
  refine ⟨u, q.1, _, ?_, hrun, hend⟩
  simp only [Machine.enterVector, hq, hlow.p]
  exact hnext

end

/-! ### The first two cycles (R606, R607, R608) -/

/-- Cycles c1 and c2 of every sequence: PC is read twice and stays. -/
def discardPcTwice (s : State) : State := discardCycle (discardCycle s.cpu.pc s).cpu.pc (discardCycle s.cpu.pc s)

theorem discardPcTwice_run (s : State) :
    ∃ d1 d2, ReadRun s [⟨s.cpu.pc, d1, true⟩, ⟨s.cpu.pc, d2, true⟩] s.regs (discardPcTwice s) := by
  unfold discardPcTwice
  rw [discardCycle_pc]
  exact ⟨_, _, ((ReadRun.refl s).read s.cpu.pc).read s.cpu.pc⟩

/-! ### The boundary's choice (R192, R620) -/

theorem step_of_irq {s : State} (hreset : s.cpu.resetReq = false) (hnmi : s.cpu.nmiPending = false)
    (hirq : s.cpu.irqLine = true) (hmask : s.cpu.p.i = false) : step s = irqSeq (clearRecords s) := by
  simp only [step, nextSequence, hreset, hnmi, hirq, hmask, Bool.false_eq_true, if_false, Bool.not_false, Bool.and_self,
    if_true]

theorem step_of_nmi {s : State} (hreset : s.cpu.resetReq = false) (hnmi : s.cpu.nmiPending = true) :
    step s = nmiSeq (clearRecords s) := by
  simp only [step, nextSequence, hreset, hnmi, Bool.false_eq_true, if_false, if_true]

theorem step_of_reset {s : State} (hreset : s.cpu.resetReq = true) : step s = resetSeq (clearRecords s) := by
  simp only [step, nextSequence, hreset, if_true]

/-! ### IRQ and NMI (R606, R607) -/

/-- What the cycles of an IRQ or NMI sequence make of the state `q` in which the first one starts. -/
structure InterruptEntered (vec : Word) (q t : State) (d1 d2 lo hi : Byte) : Prop where
  regs : t.regs = { q.regs with s := q.cpu.s - 3, pc := mkWord hi lo, p := { q.cpu.p with i := true } }
  peek : ∀ b, t.peek b = frame q.cfg q.cpu.s q.cpu.pc (q.cpu.p.toByte false) q.peek b
  bus : t.bus = q.bus ++ [⟨q.cpu.pc, d1, true⟩, ⟨q.cpu.pc, d2, true⟩, ⟨stackAt q.cfg q.cpu.s, hiByte q.cpu.pc, false⟩,
    ⟨stackAt q.cfg (q.cpu.s - 1), loByte q.cpu.pc, false⟩, ⟨stackAt q.cfg (q.cpu.s - 2), q.cpu.p.toByte false, false⟩,
    ⟨vec, lo, true⟩, ⟨vec + 1, hi, true⟩]
  low : Plain q.cfg vec → lo = t.peek vec
  high : Plain q.cfg (vec + 1) → hi = t.peek (vec + 1)
  world : Plain q.cfg q.cpu.pc → Plain q.cfg (stackAt q.cfg q.cpu.s) → Plain q.cfg (stackAt q.cfg (q.cpu.s - 1)) →
    Plain q.cfg (stackAt q.cfg (q.cpu.s - 2)) → Plain q.cfg vec → Plain q.cfg (vec + 1) →
    t.world = (State.idleCycles 7 q).world
  boundary : AtBoundary t

/-- Accepted pushes complete the sequence: the discarded reads keep all that the shared entry saves. -/
theorem ReadRun.enterInterrupt {q u : State} {d1 d2 : Byte}
    (hrun : ReadRun q [⟨q.cpu.pc, d1, true⟩, ⟨q.cpu.pc, d2, true⟩] q.regs u) (vec : Word) (hwf : Memory.wf q.mem = true)
    (hhigh : Accepts q.cfg (stackAt q.cfg q.cpu.s) (hiByte q.cpu.pc) = true)
    (hlow : Accepts q.cfg (stackAt q.cfg (q.cpu.s - 1)) (loByte q.cpu.pc) = true)
    (hflags : Accepts q.cfg (stackAt q.cfg (q.cpu.s - 2)) (q.cpu.p.toByte false) = true) :
    ∃ t lo hi, enterInterrupt false vec u = .next t ∧ InterruptEntered vec q t d1 d2 lo hi := by
  have hsp : u.cpu.s = q.cpu.s := hrun.sp
  have hpc : u.cpu.pc = q.cpu.pc := hrun.pc
  have hp : u.cpu.p = q.cpu.p := hrun.p
  have hbytes : u.peek = q.peek := funext hrun.peek
  have hentry := enterInterrupt_next false vec u
  rw [hrun.mem, hrun.cfg, hrun.regs, hrun.bus, hsp, hpc, hp, hbytes] at hentry
  obtain ⟨t, lo, hi, hnext, hregs, -, hpeek, hbus, hlo, hhi, hworld, hend⟩ := hentry hwf hhigh hlow hflags
  refine ⟨t, lo, hi, hnext, hregs, hpeek, ?_, hlo, hhi, fun hplain h0 h1 h2 hvecLo hvecHi => ?_, hend⟩
  · rw [hbus, List.append_assoc]
    rfl
  · have hbefore : u.world = (State.idleCycles 2 q).world := hrun.world (by simpa using hplain)
    rw [hworld h0 h1 h2 hvecLo hvecHi, State.idleCycles_add 2 5 q]
    exact State.idleCycles_world_congr 5 _ _ hbefore

/-- The state in which the first cycle of an IRQ sequence starts. -/
def irqStart (s : State) : State := (s.setSeq .irqSeq).setIr 0

theorem irqSeq_eq (s : State) : irqSeq s =
    enterInterrupt false (discardPcTwice (irqStart s)).cfg.vecIrq (discardPcTwice (irqStart s)) := by
  dsimp only [irqSeq, discardPcTwice, irqStart]

/-- The state in which the first cycle of an NMI sequence starts, its latch already cleared. -/
def nmiStart (s : State) : State := ((s.setSeq .nmiSeq).setIr 0).setCpu
  { ((s.setSeq .nmiSeq).setIr 0).cpu with nmiPending := false }

theorem nmiSeq_eq (s : State) : nmiSeq s =
    enterInterrupt false (discardPcTwice (nmiStart s)).cfg.vecNmi (discardPcTwice (nmiStart s)) := by
  dsimp only [nmiSeq, discardPcTwice, nmiStart]

/-- Settles O18: the entry from `irqStart`, whose world is the one the sequence finds. -/
theorem irqEntry : Obligations.IrqEntry := by
  intro s hreset hnmi hirq hmask hwf hhigh hlow hflags
  obtain ⟨d1, d2, hrun⟩ := discardPcTwice_run (irqStart (clearRecords s))
  obtain ⟨t, lo, hi, hnext, h⟩ := hrun.enterInterrupt s.cfg.vecIrq hwf hhigh hlow hflags
  have hseq : irqSeq (clearRecords s) = .next t := by
    rw [irqSeq_eq, hrun.cfg]
    exact hnext
  exact ⟨t, d1, d2, lo, hi, (step_of_irq hreset hnmi hirq hmask).trans hseq, h.regs, h.peek, h.bus,
    h.low, h.high, fun hpc h0 h1 h2 hvecLo hvecHi => (h.world hpc h0 h1 h2 hvecLo hvecHi).trans
      (State.idleCycles_world_congr 7 _ _ rfl), h.boundary⟩

/-- Settles O19: the entry from `nmiStart`, whose world has the latch cleared. -/
theorem nmiEntry : Obligations.NmiEntry := by
  intro s hreset hnmi hwf hhigh hlow hflags
  obtain ⟨d1, d2, hrun⟩ := discardPcTwice_run (nmiStart (clearRecords s))
  obtain ⟨t, lo, hi, hnext, h⟩ := hrun.enterInterrupt s.cfg.vecNmi hwf hhigh hlow hflags
  have hseq : nmiSeq (clearRecords s) = .next t := by
    rw [nmiSeq_eq, hrun.cfg]
    exact hnext
  exact ⟨t, d1, d2, lo, hi, (step_of_nmi hreset hnmi).trans hseq, h.regs, h.peek, h.bus,
    h.low, h.high, fun hpc h0 h1 h2 hvecLo hvecHi => (h.world hpc h0 h1 h2 hvecLo hvecHi).trans
      (State.idleCycles_world_congr 7 _ _ rfl), h.boundary⟩

/-! ### Reset (R608, R650) -/

/-- The state in which the first cycle of a reset sequence starts, its devices reset and both requests cleared. -/
def resetStart (s : State) : State := ((s.resetDevices.setSeq .resetSeq).setIr 0).setCpu
  { ((s.resetDevices.setSeq .resetSeq).setIr 0).cpu with resetReq := false, nmiPending := false }

theorem resetSeq_eq (s : State) : resetSeq s = enterVector (discardPcTwice (resetStart s)).cfg.vecReset
    (suppressedPush (suppressedPush (suppressedPush (discardPcTwice (resetStart s))))) := by
  dsimp only [resetSeq, discardPcTwice, resetStart]

theorem stackPointer_down_two (sp : Byte) : sp - 1 - 1 = sp - 2 := by bv_omega

theorem stackPointer_down_three (sp : Byte) : sp - 2 - 1 = sp - 3 := by bv_omega

/-- The reset sequence is one run of seven read cycles. -/
theorem resetSeq_run (s : State) :
    ∃ t d1 d2 d3 d4 d5 lo hi, resetSeq s = .next t ∧
      ReadRun (resetStart s) [⟨s.cpu.pc, d1, true⟩, ⟨s.cpu.pc, d2, true⟩, ⟨stackAt s.cfg s.cpu.s, d3, true⟩,
        ⟨stackAt s.cfg (s.cpu.s - 1), d4, true⟩, ⟨stackAt s.cfg (s.cpu.s - 2), d5, true⟩,
        ⟨s.cfg.vecReset, lo, true⟩, ⟨s.cfg.vecReset + 1, hi, true⟩]
        { s.regs with s := s.cpu.s - 3, pc := mkWord hi lo, p := { s.cpu.p with i := true }, ir := 0 } t ∧
      AtBoundary t := by
  obtain ⟨d1, d2, hstart⟩ := discardPcTwice_run (resetStart s)
  obtain ⟨d3, hfirst⟩ := hstart.suppressedPush
  obtain ⟨d4, hsecond⟩ := hfirst.suppressedPush
  rw [stackPointer_down_two] at hsecond
  obtain ⟨d5, hthird⟩ := hsecond.suppressedPush
  rw [stackPointer_down_three] at hthird
  obtain ⟨t, lo, hi, hnext, hrun, hend⟩ := hthird.enterVector s.cfg.vecReset
  refine ⟨t, d1, d2, d3, d4, d5, lo, hi, ?_, hrun, hend⟩
  rw [resetSeq_eq, hstart.cfg]
  exact hnext

/-- Settles O20: the bytes, the bus and the world of `resetSeq_run`. -/
theorem resetEntry : Obligations.ResetEntry := by
  intro s hreset
  obtain ⟨t, d1, d2, d3, d4, d5, lo, hi, hnext, hrun, hend⟩ := resetSeq_run (clearRecords s)
  have hbytes := hrun.byte
  have hworld := hrun.world
  simp only [List.forall_mem_cons] at hbytes hworld
  obtain ⟨-, -, -, -, -, hlo, hhi, -⟩ := hbytes
  refine ⟨t, d1, d2, d3, d4, d5, lo, hi, (step_of_reset hreset).trans hnext, hrun.regs, hrun.peek, hrun.bus, hlo, hhi,
    fun hpc h0 h1 h2 hvecLo hvecHi => ?_, hend⟩
  exact (hworld ⟨hpc, hpc, h0, h1, h2, hvecLo, hvecHi, by simp⟩).trans (State.idleCycles_world_congr 7 _ _ rfl)

/-! ### The return from an entry (R354) -/

/-- The three stack addresses of an entry differ, so each holds the byte pushed there. -/
theorem frame_of_ram {cfg : Config} {sp : Byte} (hhigh : target cfg (stackAt cfg sp) = .ram)
    (hlow : target cfg (stackAt cfg (sp - 1)) = .ram) (hflags : target cfg (stackAt cfg (sp - 2)) = .ram) (pc : Word)
    (flags : Byte) (bytes : Word → Byte) :
    frame cfg sp pc flags bytes (stackAt cfg sp) = hiByte pc ∧
      frame cfg sp pc flags bytes (stackAt cfg (sp - 1)) = loByte pc ∧
      frame cfg sp pc flags bytes (stackAt cfg (sp - 2)) = flags := by
  have hlast : stackAt cfg (sp - 1) ≠ stackAt cfg (sp - 2) := stackPointer_down_two sp ▸ stackAt_ne_below cfg (sp - 1)
  have houter : stackAt cfg sp ≠ stackAt cfg (sp - 2) := fun h => by
    have hsp := stackAt_inj h
    bv_omega
  refine ⟨?_, ?_, stored_of_ram hflags _ _⟩
  · rw [frame, stored_of_ne fun _ => houter, stored_of_ne fun _ => stackAt_ne_below cfg sp, stored_of_ram hhigh]
  · rw [frame, stored_of_ne fun _ => hlast, stored_of_ram hlow]

/-- Settles O24: `rtiReturns` pulls the three bytes that `frame_of_ram` finds on the stack. -/
theorem rtiRestores : Obligations.RtiRestores := by
  intro brk vec s t u hwf hram henter hcfg hspSame hsame
  have hramHigh : target s.cfg (stackAt s.cfg s.cpu.s) = .ram := by simpa using hram 0
  have hramLow : target s.cfg (stackAt s.cfg (s.cpu.s - 1)) = .ram := hram 1
  have hramFlags : target s.cfg (stackAt s.cfg (s.cpu.s - 2)) = .ram := hram 2
  obtain ⟨hhighPushed, hlowPushed, hflagsPushed⟩ :=
    frame_of_ram hramHigh hramLow hramFlags s.cpu.pc (s.cpu.p.toByte brk) s.peek
  obtain ⟨t', lo', hi', hnext, hregs, -⟩ := enterInterrupt_next brk vec s hwf (accepts_of_ram hramHigh _)
    (accepts_of_ram hramLow _) (accepts_of_ram hramFlags _)
  cases henter.symm.trans hnext
  obtain ⟨v, f, lo, hi, hrti, hregsV, hf, hlo, hhi, -⟩ := rtiReturns u
  have hup1 : s.cpu.s - 3 + 1 = s.cpu.s - 2 := by bv_omega
  have hup2 : s.cpu.s - 3 + 2 = s.cpu.s - 1 := by bv_omega
  have hup3 : s.cpu.s - 3 + 3 = s.cpu.s := by bv_omega
  have hhighSame : u.peek (stackAt s.cfg s.cpu.s) = hiByte s.cpu.pc := hhighPushed ▸ by simpa using hsame 0
  rw [hcfg, hspSame, hup1] at hf
  rw [hcfg, hspSame, hup2] at hlo
  rw [hcfg, hspSame, hup3, hhighSame] at hhi
  have hflags : f = s.cpu.p.toByte brk := (hf (.inl hramFlags)).trans ((hsame 2).trans hflagsPushed)
  have hlow : lo = loByte s.cpu.pc := (hlo (.inl hramLow)).trans ((hsame 1).trans hlowPushed)
  have hpcV : v.cpu.pc = mkWord hi lo := congrArg Regs.pc hregsV
  have hpV : v.cpu.p = Flags.ofByte f := congrArg Regs.p hregsV
  have hspV : v.cpu.s = u.cpu.s + 3 := congrArg Regs.s hregsV
  refine ⟨congrArg Regs.s hregs, v, hrti, ?_, ?_, ?_⟩
  · rw [hpcV, hhi (.inl hramHigh), hlow, mkWord_hiByte_loByte]
  · rw [hpV, hflags, Flags.ofByte_toByte]
  · rw [hspV, hspSame, hup3]

end Sys2Proof.Machine
end

section
/-! PROOFS. How a step can stop (O30): a write cycle can be refused for a Read Track or Write Track command, a reserved opcode
is refused, and nothing else a step does stops it. -/

namespace Sys2Proof.Machine

/-! ### Outcomes that stop only as the spec says -/

/-- The reasons the spec gives to refuse (R195, R521, R522). -/
def SpecRefusal (r : Refusal) : Prop :=
  (∃ op, r = .reservedOpcode op ∧ formatOf op = .reserved) ∨ (∃ v : Byte, r = .fdcReadTrack v ∧ v.toNat / 16 = 0xE) ∨
    (∃ v : Byte, r = .fdcWriteTrack v ∧ v.toNat / 16 = 0xF)

/-- The outcome is no refusal but for such a reason. -/
def StopsBySpec (o : Host.Outcome State Fault Refusal) : Prop := ∀ r, o = .refused r → SpecRefusal r

theorem stopsBySpec_next (t : State) : StopsBySpec (.next t) := fun _ h => nomatch h

theorem stopsBySpec_of_next {o : Host.Outcome State Fault Refusal} {t : State} (h : o = .next t) : StopsBySpec o :=
  h ▸ stopsBySpec_next t

theorem stopsBySpec_refused {r : Refusal} (h : SpecRefusal r) : StopsBySpec (.refused r) := fun _ hr => by
  cases hr
  exact h

theorem stopsBySpec_andThen {o : Host.Outcome State Fault Refusal} {f : State → Host.Outcome State Fault Refusal}
    (ho : StopsBySpec o) (hf : ∀ t, StopsBySpec (f t)) : StopsBySpec (andThen o f) := by
  cases o with
  | next t => exact hf t
  | fault r => cases r
  | refused r => exact stopsBySpec_refused (ho r rfl)

/-! ### Cycles and sequences (R600) -/

theorem specRefusal_trackRefusal {v : Byte} (hv : 0xE0 ≤ v.toNat) : SpecRefusal (trackRefusal v) := by
  have hlt : v.toNat < 256 := v.isLt
  unfold trackRefusal
  split
  · exact .inr (.inl ⟨v, rfl, by omega⟩)
  · exact .inr (.inr ⟨v, rfl, by omega⟩)

/-- The one cycle that can be refused is a command byte from $E0 on written to an idle controller. -/
theorem writeCycle_stopsBySpec (a : Word) (v : Byte) (s : State) : StopsBySpec (writeCycle a v s) := by
  cases haccepts : Accepts s.cfg a v with
  | true =>
    obtain ⟨t, hnext⟩ := writeCycle_completes (s := s) (.inl haccepts)
    exact stopsBySpec_of_next hnext
  | false =>
    obtain ⟨-, -, hv⟩ := accepts_eq_false_iff.mp haccepts
    cases hbusy : s.beginCycle.fdc.busy with
    | true =>
      obtain ⟨t, hnext⟩ := writeCycle_completes (a := a) (v := v) (.inr hbusy)
      exact stopsBySpec_of_next hnext
    | false =>
      rw [writeCycle_refused haccepts hbusy]
      exact stopsBySpec_refused (specRefusal_trackRefusal hv)

theorem push_stopsBySpec (v : Byte) (s : State) : StopsBySpec (push v s) :=
  stopsBySpec_andThen (writeCycle_stopsBySpec _ v s) fun _ => stopsBySpec_next _

theorem enterVector_stopsBySpec (vec : Word) (s : State) : StopsBySpec (enterVector vec s) := stopsBySpec_next _

theorem enterInterrupt_stopsBySpec (brk : Bool) (vec : Word) (s : State) : StopsBySpec (enterInterrupt brk vec s) :=
  stopsBySpec_andThen (push_stopsBySpec _ s) fun _ => stopsBySpec_andThen (push_stopsBySpec _ _) fun _ =>
    stopsBySpec_andThen (push_stopsBySpec _ _) fun _ => enterVector_stopsBySpec vec _

/-! ### Instructions -/

theorem storeOp_stopsBySpec (m : Operand) (v : Byte) (s : State) : StopsBySpec (storeOp m v s) :=
  stopsBySpec_andThen (writeCycle_stopsBySpec _ v _) fun _ => stopsBySpec_next _

theorem rmwOp_stopsBySpec (m : Operand) (op : Byte → Flags → ByteResult) (s : State) : StopsBySpec (rmwOp m op s) :=
  stopsBySpec_andThen (writeCycle_stopsBySpec _ _ _) fun _ =>
    stopsBySpec_andThen (writeCycle_stopsBySpec _ _ _) fun _ => stopsBySpec_next _

theorem branchOp_stopsBySpec (cond : Bool) (off : Byte) (s : State) : StopsBySpec (branchOp cond off s) := by
  obtain ⟨t, hnext, -⟩ := branchOp_next cond off s
  exact stopsBySpec_of_next hnext

theorem execJsrAbs_stopsBySpec (w : Word) (s : State) : StopsBySpec (execJsrAbs w s) :=
  stopsBySpec_andThen (push_stopsBySpec _ _) fun _ => stopsBySpec_andThen (push_stopsBySpec _ _) fun _ =>
    stopsBySpec_next _

/-- The CPU's instructions outside the classes: stack operations, jumps, calls and returns. -/
def stackOrJump (i : Instr) : Bool :=
  match i with
  | .pha | .php | .pla | .plp | .jmpAbs _ | .jmpInd _ | .jsrAbs _ | .rts | .rti | .brk => true
  | _ => false

/-- `cases h` leaves the instructions that are encoded as CPU bytes; each is in one of the classes. -/
theorem form_of_encode_cpu {i : Instr} {used : List Byte} (h : encode i = .cpu used) :
    (readForm i).isSome ∨ (immForm i).isSome ∨ (storeForm i).isSome ∨ (rmwForm i).isSome ∨ (accForm i).isSome ∨
      (impliedForm i).isSome ∨ (branchForm i).isSome ∨ (reservedForm i).isSome ∨ stackOrJump i := by
  simp only [← Bool.or_eq_true]
  cases i
  all_goals cases h
  all_goals rfl

theorem exec_stackOrJump_stopsBySpec {i : Instr} (h : stackOrJump i) (s : State) : StopsBySpec (exec i s) := by
  cases i
  case pha => exact stopsBySpec_andThen (push_stopsBySpec _ _) fun _ => stopsBySpec_next _
  case php => exact stopsBySpec_andThen (push_stopsBySpec _ _) fun _ => stopsBySpec_next _
  case jsrAbs w => exact execJsrAbs_stopsBySpec w s
  case brk => exact enterInterrupt_stopsBySpec true _ _
  case pla | plp | jmpAbs | jmpInd | rts | rti => exact stopsBySpec_next _
  all_goals cases h

/-- No CPU instruction stops for another reason, class by class. -/
theorem exec_stopsBySpec {i : Instr} {used : List Byte} (h : encode i = .cpu used) (s : State) :
    StopsBySpec (exec i s) := by
  have hforms := form_of_encode_cpu h
  simp only [Option.isSome_iff_exists, Prod.exists] at hforms
  obtain ⟨_, _, hread⟩ | ⟨_, _, himm⟩ | ⟨k, m, hstore⟩ | ⟨k, m, hrmw⟩ | ⟨_, hacc⟩ | ⟨_, himplied⟩ | ⟨cond, off, hbranch⟩ |
    ⟨op, hreserved⟩ | hother := hforms
  · exact exec_of_readForm hread s ▸ stopsBySpec_next _
  · exact exec_of_immForm himm s ▸ stopsBySpec_next _
  · exact exec_of_storeForm hstore s ▸ storeOp_stopsBySpec m _ s
  · exact exec_of_rmwForm hrmw s ▸ rmwOp_stopsBySpec m k.result s
  · exact exec_of_accForm hacc s ▸ stopsBySpec_next _
  · exact exec_of_impliedForm himplied s ▸ stopsBySpec_next _
  · exact exec_of_branchForm hbranch s ▸ branchOp_stopsBySpec (cond s.cpu.p) off s
  · obtain ⟨hexec, -, hformat⟩ := reservedOpcodesRefused i op s hreserved
    exact hexec ▸ stopsBySpec_refused (.inl ⟨op, rfl, hformat⟩)
  · exact exec_stackOrJump_stopsBySpec hother s

/-! ### The step -/

/-- Whatever the bytes fetched, the instruction is one of the opcode map's (R194). -/
theorem fetch_eq_decodeOpcode (s : State) : ∃ op b1 b2, (fetch s).1 = decodeOpcode op b1 b2 := by
  dsimp only [fetch]
  split
  · exact ⟨_, _, _, rfl⟩
  · split
    · exact ⟨_, _, _, rfl⟩
    · exact ⟨_, _, _, rfl⟩
    · exact ⟨_, _, _, rfl⟩

theorem step_stopsBySpec (s : State) : StopsBySpec (step s) := by
  unfold step
  split
  · exact enterVector_stopsBySpec _ _
  · exact enterInterrupt_stopsBySpec false _ _
  · exact enterInterrupt_stopsBySpec false _ _
  · obtain ⟨op, b1, b2, hfetch⟩ := fetch_eq_decodeOpcode (clearRecords s)
    exact exec_stopsBySpec (hfetch ▸ encode_decodeOpcode op b1 b2) _

/-- Settles O30: there is no fault to stop with, and `step_stopsBySpec` says what refuses. -/
theorem stopsAreTheSpecs : Obligations.StopsAreTheSpecs :=
  fun s => ⟨(fun r => nomatch r), step_stopsBySpec s⟩

end Sys2Proof.Machine
end

section
/-! PROOFS. The Tube between two accesses (O60): what an access leaves but for the lines, channel by channel, and the
recomputation that ends it. -/

namespace Sys2Proof.Machine

/-! ### The lines (R580) -/

/-- A consistent Tube but for its lines: what the accesses have to leave for the recomputation that ends them. -/
structure Tube.Balanced (cfg : Config) (t : Tube) : Prop where
  down1 : t.p1.available = !t.h1.notFull
  down2 : t.p2.available = !t.h2.notFull
  up2 : t.h2.available = !t.p2.notFull
  down4 : t.p4.available = !t.h4.notFull
  up4 : t.h4.available = !t.p4.notFull
  ringAvailable : t.h1.available = decide (0 < t.p2h1Count)
  ringNotFull : t.p1.notFull = decide (t.p2h1Count < cfg.tubeDepth)
  ringSize : t.p2h1.length = cfg.tubeDepth
  ringWr : t.p2h1Wr < cfg.tubeDepth
  ringCount : t.p2h1Count ≤ cfg.tubeDepth
  down3 : t.h2p3.count ≤ 2
  up3 : t.p2h3.count ≤ 2

section
variable {cfg : Config} {t : Tube}

theorem Tube.Consistent.balanced (h : t.Consistent cfg) : t.Balanced cfg := { h with }

theorem Tube.Balanced.recompute (h : t.Balanced cfg) : (t.recompute cfg).Consistent cfg :=
  { h with hirq := rfl, pirq := rfl, pnmi := rfl }

/-! ### Reset and the control register (R66, R553, R581) -/

/-- T empties every channel and frees every latch (R581). -/
theorem Tube.clear_balanced (hsize : t.p2h1.length = cfg.tubeDepth) (hdepth : 0 < cfg.tubeDepth) :
    t.clear.Balanced cfg where
  down1 := rfl
  down2 := rfl
  up2 := rfl
  down4 := rfl
  up4 := rfl
  ringAvailable := rfl
  ringNotFull := (decide_eq_true hdepth).symm
  ringSize := hsize
  ringWr := hdepth
  ringCount := hdepth.le
  down3 := Nat.zero_le 2
  up3 := Nat.zero_le 2

/-- The Tube after its reset is a cleared one with no interrupt enabled. -/
theorem Tube.initial_consistent (hdepth : 0 < cfg.tubeDepth) : (Tube.initial cfg.tubeDepth).Consistent cfg := by
  have hcleared : (Tube.initial cfg.tubeDepth).clear.Balanced cfg := Tube.clear_balanced List.length_replicate hdepth
  have hlines : (Tube.initial cfg.tubeDepth).recompute cfg = Tube.initial cfg.tubeDepth := by
    simp [Tube.recompute, Tube.initial, Tube.q, Tube.i, Tube.j, Tube.m]
  rw [← hlines]
  exact hcleared.recompute

theorem Tube.Consistent.hostWrite0 (h : t.Consistent cfg) (hdepth : 0 < cfg.tubeDepth) (d : Byte) :
    (t.hostWrite0 cfg d).Consistent cfg := by
  have hcleared : (if bit d 7 = true ∧ bit d 6 = true then t.clear else t).Balanced cfg := by
    split
    · exact Tube.clear_balanced h.ringSize hdepth
    · exact h.balanced
  rw [Tube.hostWrite0_eq]
  exact Tube.Balanced.recompute { hcleared with }

/-! ### Channel 1 to the host (R556, R558, R559) -/

/-- Computing the ring's flags makes up for any change of the count within the depth. -/
theorem Tube.Balanced.ringFlags {n : Nat} (h : t.Balanced cfg) (hn : n ≤ cfg.tubeDepth) :
    (({ t with p2h1Count := n } : Tube).ringFlags cfg).Balanced cfg :=
  { h with ringAvailable := rfl, ringNotFull := rfl, ringCount := hn }

theorem Tube.Consistent.hostRead1 (h : t.Consistent cfg) : (t.hostRead1 cfg).2.Consistent cfg := by
  by_cases hwaiting : 0 < t.p2h1Count
  · rw [Tube.hostRead1_of_waiting hwaiting]
    exact (h.balanced.ringFlags ((Nat.sub_le _ 1).trans h.ringCount)).recompute
  · rw [Tube.hostRead1_of_empty hwaiting]
    exact (h.balanced.ringFlags h.ringCount).recompute

theorem Tube.Consistent.parasiteWrite1 (h : t.Consistent cfg) (hdepth : 0 < cfg.tubeDepth) (d : Byte) :
    (t.parasiteWrite1 cfg d).Consistent cfg := by
  by_cases hroom : t.p2h1Count < cfg.tubeDepth
  · have hstored : ({ t with p2h1 := t.p2h1.set t.p2h1Wr d, p2h1Wr := (t.p2h1Wr + 1) % cfg.tubeDepth } : Tube).Balanced
        cfg := { h with ringSize := List.length_set.trans h.ringSize, ringWr := Nat.mod_lt _ hdepth }
    rw [Tube.parasiteWrite1_of_room d hroom]
    exact (hstored.ringFlags (n := t.p2h1Count + 1) hroom).recompute
  · rw [Tube.parasiteWrite1_of_full d hroom]
    exact (h.balanced.ringFlags h.ringCount).recompute

/-! ### Channel 3 (R565, R566) -/

theorem Ch3.write_count_le {c : Ch3} (h : c.pair.count ≤ 2) (twoByte : Bool) (d : Byte) :
    (c.write twoByte d).pair.count ≤ 2 := by
  rw [(Ch3.written h twoByte d).count]
  exact List.length_take_le' _ _

theorem Ch3.read_count_le (c : Ch3) (dummy : Byte) : (c.read dummy).2.pair.count ≤ c.pair.count := by
  unfold Ch3.read
  split
  · exact Nat.le_refl _
  · exact Nat.sub_le _ 1

theorem Tube.Consistent.setDown3 (h : t.Consistent cfg) {c : Ch3} (hc : c.pair.count ≤ 2) :
    ((t.setDown3 c).recompute cfg).Consistent cfg :=
  Tube.Balanced.recompute { h with down3 := hc }

theorem Tube.Consistent.setUp3 (h : t.Consistent cfg) {c : Ch3} (hc : c.pair.count ≤ 2) :
    ((t.setUp3 c).recompute cfg).Consistent cfg :=
  Tube.Balanced.recompute { h with up3 := hc }

/-! ### The register maps (R175, R551)

The two latches of a one-byte direction flip together (R555, R585), so after an access they are complementary by `rfl`.
In the case splits over the register maps of the reads, case `h_k` is register `k - 1`. -/

theorem Tube.Consistent.hostRead (h : t.Consistent cfg) (r : BitVec 3) : (t.hostRead cfg r).2.Consistent cfg := by
  unfold Tube.hostRead
  split
  case h_2 => exact h.hostRead1
  case h_4 => exact Tube.Balanced.recompute { h with up2 := rfl }
  case h_6 => exact h.setUp3 ((Ch3.read_count_le t.up3 _).trans h.up3)
  case h_8 => exact Tube.Balanced.recompute { h with up4 := rfl }
  all_goals exact h

theorem Tube.Consistent.parasiteRead (h : t.Consistent cfg) (r : BitVec 3) :
    (t.parasiteRead cfg r).2.Consistent cfg := by
  unfold Tube.parasiteRead
  split
  case h_2 => exact Tube.Balanced.recompute { h with down1 := rfl }
  case h_4 => exact Tube.Balanced.recompute { h with down2 := rfl }
  case h_6 => exact h.setDown3 ((Ch3.read_count_le t.down3 _).trans h.down3)
  case h_8 => exact Tube.Balanced.recompute { h with down4 := rfl }
  all_goals exact h

theorem Tube.Consistent.hostWrite (h : t.Consistent cfg) (hdepth : 0 < cfg.tubeDepth) (r : BitVec 3) (d : Byte) :
    (t.hostWrite cfg r d).Consistent cfg := by
  unfold Tube.hostWrite
  split
  · exact h.hostWrite0 hdepth d
  · exact Tube.Balanced.recompute { h with down1 := rfl }
  · exact Tube.Balanced.recompute { h with down2 := rfl }
  · exact h.setDown3 (Ch3.write_count_le h.down3 t.v d)
  · exact Tube.Balanced.recompute { h with down4 := rfl }
  · exact h

theorem Tube.Consistent.parasiteWrite (h : t.Consistent cfg) (hdepth : 0 < cfg.tubeDepth) (r : BitVec 3) (d : Byte) :
    (t.parasiteWrite cfg r d).Consistent cfg := by
  unfold Tube.parasiteWrite
  split
  · exact h.parasiteWrite1 hdepth d
  · exact Tube.Balanced.recompute { h with up2 := rfl }
  · exact h.setUp3 (Ch3.write_count_le h.up3 t.v d)
  · exact Tube.Balanced.recompute { h with up4 := rfl }
  · exact h

/-! ### Runs of the parasite's accesses (R115, R582) -/

theorem Tube.Consistent.parasiteAccess (h : t.Consistent cfg) (hdepth : 0 < cfg.tubeDepth) (x : ParasiteAccess) :
    (t.parasiteAccess cfg x).Consistent cfg := by
  cases x with
  | read r => exact { h.parasiteRead r with }
  | write r d => exact h.parasiteWrite hdepth r d

theorem Tube.Consistent.parasiteRun (h : t.Consistent cfg) (hdepth : 0 < cfg.tubeDepth) (as : List ParasiteAccess) :
    (Tube.parasiteRun cfg as t).Consistent cfg := by
  induction as generalizing t with
  | nil => exact h
  | cons x rest ih =>
    unfold Tube.parasiteRun
    split
    · exact ih h
    · exact ih (h.parasiteAccess hdepth x)

/-- A parasite held in reset leaves the Tube as it is, whatever it would do (R582). -/
theorem Tube.parasiteRun_eq_self (h : t.tstat.getLsbD 5 = true) (as : List ParasiteAccess) :
    Tube.parasiteRun cfg as t = t := by
  induction as with
  | nil => rfl
  | cons x rest ih => rw [Tube.parasiteRun_held h, ih]

end

/-- Settles O60: each access by its register's rule, the lists by induction, and the lines by evaluation. -/
theorem tubeStaysConsistent : Obligations.TubeStaysConsistent := fun _ _ hdepth h =>
  ⟨fun r => ⟨h.hostRead r, h.parasiteRead r⟩, fun r d => ⟨h.hostWrite hdepth r d, h.parasiteWrite hdepth r d⟩,
    h.parasiteRun hdepth, fun as hheld => Tube.parasiteRun_eq_self hheld as, fun _ => rfl⟩

end Sys2Proof.Machine
end

section
/-! PROOFS. What the edges of a VIA leave alone (O44): the phases of both edges only raise flags, and change none that R36
keeps clear; the programmed registers stay. -/

namespace Sys2Proof.Machine

/-! ### Flags that are only raised (R450, R452 to R454) -/

/-- Every flag of `f` is still set in `g`, and the SR flag is the same. -/
structure FlagsKept (f g : BitVec 7) : Prop where
  kept : ∀ j : Fin 7, f.getLsbD j.val = true → g.getLsbD j.val = true
  sr : g.getLsbD 2 = f.getLsbD 2

theorem FlagsKept.refl (f : BitVec 7) : FlagsKept f f := ⟨fun _ hj => hj, rfl⟩

theorem FlagsKept.trans {f g h : BitVec 7} (hfg : FlagsKept f g) (hgh : FlagsKept g h) : FlagsKept f h :=
  ⟨fun j hj => hgh.kept j (hfg.kept j hj), hgh.sr.trans hfg.sr⟩

/-- Raising any flag but SR's. -/
theorem FlagsKept.raise (f : BitVec 7) {i : Nat} (hi : i ≠ 2) : FlagsKept f (setBit 7 f i true) where
  kept j hj := by rw [getLsbD_raiseFlag, hj, Bool.true_or]
  sr := (getLsbD_setBit f true (by decide)).trans (if_neg hi.symm)

theorem c1Bit_ne_sr (x : PortSel) : c1Bit x ≠ 2 := by cases x <;> decide

theorem c2Bit_ne_sr (x : PortSel) : c2Bit x ≠ 2 := by cases x <;> decide

theorem Via.leadT1_flags (v : Via) : FlagsKept v.ifr v.leadT1.ifr := by
  unfold Via.leadT1
  split
  · exact .raise v.ifr (by decide)
  · exact .refl v.ifr

theorem Via.leadT2_flags (v : Via) : FlagsKept v.ifr v.leadT2.ifr := by
  unfold Via.leadT2
  split
  · exact .raise v.ifr (by decide)
  · exact .refl v.ifr

theorem Via.trailC1_flags (v : Via) (x : PortSel) : FlagsKept v.ifr (v.trailC1 x).ifr := by
  unfold Via.trailC1
  split
  · rw [Via.setPort_ifr]
    exact .raise v.ifr (c1Bit_ne_sr x)
  · exact .refl v.ifr

theorem Via.trailC2_flags (v : Via) (x : PortSel) : FlagsKept v.ifr (v.trailC2 x).ifr := by
  rw [Via.trailC2, Via.setPort_ifr]
  change FlagsKept v.ifr (if v.c2Active x then setBit 7 v.ifr (c2Bit x) true else v.ifr)
  split
  · exact .raise v.ifr (c2Bit_ne_sr x)
  · exact .refl v.ifr

theorem Via.leadingEdge_flags (v : Via) : FlagsKept v.ifr v.leadingEdge.ifr :=
  v.leadT1_flags.trans v.leadT1.leadT2_flags

/-- The timers' phases of the trailing edge raise no flag: the next leading edge does (R450). -/
theorem Via.trailingEdge_ifr (v : Via) :
    v.trailingEdge.ifr = ((((v.trailC1 .a).trailC1 .b).trailC2 .a).trailC2 .b).ifr := by
  rw [Via.trailingEdge_phases, Via.trailT2_eq, Via.trailT1_eq]
  rfl

theorem Via.trailingEdge_flags (v : Via) : FlagsKept v.ifr v.trailingEdge.ifr := by
  rw [Via.trailingEdge_ifr]
  exact (((v.trailC1_flags .a).trans (Via.trailC1_flags _ .b)).trans (Via.trailC2_flags _ .a)).trans
    (Via.trailC2_flags _ .b)

/-! ### The ports at the trailing edge (R452 to R455) -/

/-- A port after its C1 rule. -/
def Via.portC1 (v : Via) (x : PortSel) : Port :=
  { v.port x with
    latch := if v.c1Active x && v.latchEnable x then (v.port x).p else (v.port x).latch
    c2 := if v.c1Active x && v.c2Mode x == 4 then true else (v.port x).c2 }

/-- A port after its C1 and C2 rules, with the shadows still the old ones. -/
def Via.portTrailed (v : Via) (x : PortSel) : Port := (v.portC1 x).trailC2 (v.c2Mode x)

theorem Via.trailC1_port (v : Via) (x y : PortSel) :
    (v.trailC1 x).port y = if y = x then v.portC1 x else v.port y := by
  rw [Via.trailC1_eq]
  cases x <;> cases y <;> rfl

theorem Via.trailC2_port (v : Via) (x y : PortSel) :
    (v.trailC2 x).port y = if y = x then (v.port x).trailC2 (v.c2Mode x) else v.port y := by
  cases x <;> cases y <;> rfl

theorem Via.trailC1_c2Mode (v : Via) (x y : PortSel) : (v.trailC1 x).c2Mode y = v.c2Mode y := by
  rw [Via.trailC1_eq]
  cases x <;> cases y <;> rfl

theorem Via.trailC2_c2Mode (v : Via) (x y : PortSel) : (v.trailC2 x).c2Mode y = v.c2Mode y := by
  cases x <;> cases y <;> rfl

/-- Port B's C1 rule does not look at port A. -/
theorem Via.trailC1_a_portC1_b (v : Via) : (v.trailC1 .a).portC1 .b = v.portC1 .b := by
  rw [Via.trailC1_eq]
  rfl

/-- The two rules change nothing of a port but its input latch and C2 with its pulse. -/
theorem Via.portTrailed_eq (v : Via) (x : PortSel) :
    v.portTrailed x = { v.port x with
      latch := (v.portTrailed x).latch, c2 := (v.portTrailed x).c2, pulse := (v.portTrailed x).pulse } := by
  unfold Via.portTrailed
  rw [Port.trailC2_eq]
  rfl

/-- Each port takes its own rules, whatever those of the other port do, and then its shadows. -/
theorem Via.trailingEdge_port (v : Via) (x : PortSel) :
    v.trailingEdge.port x = { v.port x with
      latch := (v.portTrailed x).latch, c2 := (v.portTrailed x).c2, pulse := (v.portTrailed x).pulse
      oldC1 := (v.port x).c1, oldC2 := (v.portTrailed x).c2 } := by
  have hrules : ((((v.trailC1 .a).trailC1 .b).trailC2 .a).trailC2 .b).port x = v.portTrailed x := by
    unfold Via.portTrailed
    cases x <;>
      simp only [Via.trailC2_port, Via.trailC1_port, Via.trailC2_c2Mode, Via.trailC1_c2Mode, Via.trailC1_a_portC1_b,
        reduceCtorEq, if_true, if_false]
  have hshadows : v.trailingEdge.port x =
      { v.portTrailed x with oldC1 := (v.portTrailed x).c1, oldC2 := (v.portTrailed x).c2 } := by
    rw [← hrules, Via.trailingEdge_phases, Via.trailT2_eq, Via.trailT1_eq]
    cases x <;> rfl
  rw [hshadows, Via.portTrailed_eq]

theorem Via.trailingEdge_or (v : Via) (x : PortSel) : (v.trailingEdge.port x).or = (v.port x).or := by
  rw [Via.trailingEdge_port]

theorem Via.trailingEdge_ddr (v : Via) (x : PortSel) : (v.trailingEdge.port x).ddr = (v.port x).ddr := by
  rw [Via.trailingEdge_port]

/-! ### Both edges -/

/-- What the program has set up in a VIA: its identity, the registers that the edges only read, and the timers' latches. -/
structure Via.SameProgram (v w : Via) : Prop where
  id : w.id = v.id
  orA : w.a.or = v.a.or
  orB : w.b.or = v.b.or
  ddrA : w.a.ddr = v.a.ddr
  ddrB : w.b.ddr = v.b.ddr
  acr : w.acr = v.acr
  pcr : w.pcr = v.pcr
  sr : w.sr = v.sr
  ier : w.ier = v.ier
  t1ll : w.t1ll = v.t1ll
  t1lh : w.t1lh = v.t1lh
  t2ll : w.t2ll = v.t2ll
  t2lh : w.t2lh = v.t2lh

theorem Via.leadingEdge_sameProgram (v : Via) : v.SameProgram v.leadingEdge := by
  rw [Via.leadingEdge_eq]
  exact ⟨rfl, rfl, rfl, rfl, rfl, rfl, rfl, rfl, rfl, rfl, rfl, rfl, rfl⟩

theorem Via.trailingEdge_sameProgram (v : Via) : v.SameProgram v.trailingEdge where
  id := by rw [Via.trailingEdge_eq]
  orA := v.trailingEdge_or .a
  orB := v.trailingEdge_or .b
  ddrA := v.trailingEdge_ddr .a
  ddrB := v.trailingEdge_ddr .b
  acr := v.trailingEdge_acr
  pcr := by rw [Via.trailingEdge_eq]
  sr := by rw [Via.trailingEdge_eq]
  ier := by rw [Via.trailingEdge_eq]
  t1ll := by rw [Via.trailingEdge_eq]
  t1lh := by rw [Via.trailingEdge_eq]
  t2ll := by rw [Via.trailingEdge_eq]
  t2lh := by rw [Via.trailingEdge_eq]

/-- Settles O44: each edge phase by phase for the flags, and as one update for the rest. -/
theorem edgesOnlyRaiseFlags : Obligations.EdgesOnlyRaiseFlags := by
  intro v w hw
  have hflags : FlagsKept v.ifr w.ifr ∧ w.irqMask = (w.ier &&& w.ifr) ∧ v.SameProgram w := by
    obtain rfl | rfl := hw
    · exact ⟨v.leadingEdge_flags, rfl, v.leadingEdge_sameProgram⟩
    · exact ⟨v.trailingEdge_flags, rfl, v.trailingEdge_sameProgram⟩
  obtain ⟨⟨hkept, hsr⟩, hmask, hsame⟩ := hflags
  exact ⟨hkept, hsr, hmask, hsame.id, hsame.orA, hsame.orB, hsame.ddrA, hsame.ddrB, hsame.acr, hsame.pcr, hsame.sr,
    hsame.ier, hsame.t1ll, hsame.t1lh, hsame.t2ll, hsame.t2lh⟩

end Sys2Proof.Machine
end

section
/-! PROOFS. A VIA inside a cycle and at its end (R402, R404, R455; used by O31): its pins follow its registers, whatever
access comes between its edges, and the trailing edge brings the shadows and the mask up to date. -/

namespace Sys2Proof.Machine

/-! ### C2 as an input (R404, R405) -/

/-- PCR makes C2 of a port an output: modes 4 to 7. -/
def Via.drivesC2 (v : Via) : PortSel → Bool
  | .a => bit v.pcr 3
  | .b => bit v.pcr 7

theorem Via.c2Mode_top (v : Via) (x : PortSel) : (v.c2Mode x).getLsbD 2 = v.drivesC2 x := by
  cases x <;> simp [Via.c2Mode, Via.drivesC2, bit]

/-- An input C2 is in none of the output modes. -/
theorem Via.c2Mode_of_input {v : Via} {x : PortSel} (h : v.drivesC2 x = false) :
    v.c2Mode x ≠ 4 ∧ v.c2Mode x ≠ 5 ∧ v.c2Mode x ≠ 6 ∧ v.c2Mode x ≠ 7 := by
  rw [← Via.c2Mode_top] at h
  generalize v.c2Mode x = m at h
  revert m
  decide

theorem Port.followC2_c2 (q : Port) {output : Bool} (h : output = false) :
    (q.followC2 output).c2 = (q.followC2 output).extC2 := by
  subst h
  rfl

/-! ### Pins that follow the registers (R404) -/

/-- A VIA between its edges: what `Via.Settled` says of it but for the shadows and the mask, which the trailing edge brings
up to date. -/
structure Via.Driven (id : ViaId) (v : Via) : Prop where
  id : v.id = id
  pinsA : v.a.p = v.refreshA.a.p
  pinsB : v.b.p = v.refreshB.b.p
  inputA : v.drivesC2 .a = false → v.a.c2 = v.a.extC2
  inputB : v.drivesC2 .b = false → v.b.c2 = v.b.extC2
  sr : v.ifr.getLsbD 2 = false

/-- A VIA at a boundary under its identity. -/
structure Via.AtRest (id : ViaId) (v : Via) : Prop where
  id : v.id = id
  settled : v.Settled

section
variable {id : ViaId} {v w : Via}

theorem Via.Driven.input (h : v.Driven id) {x : PortSel} (hx : v.drivesC2 x = false) :
    (v.port x).c2 = (v.port x).extC2 := by
  cases x with
  | a => exact h.inputA hx
  | b => exact h.inputB hx

/-- The levels put on a VIA that is at rest drive its pins and its input C2s anew. -/
theorem Via.AtRest.applyLines (h : v.AtRest id) (l : ViaLines) : (v.applyLines l).Driven id where
  id := h.id
  pinsA := rfl
  pinsB := rfl
  inputA := Port.followC2_c2 _
  inputB := Port.followC2_c2 _
  sr := h.settled.sr

/-! ### Register accesses (R406 to R443)

In the case splits over the register maps, case `h_k` is register `k - 1`. -/

theorem Via.Driven.setIfr (h : v.Driven id) {f : BitVec 7} (hf : f.getLsbD 2 = false) :
    Via.Driven id { v with ifr := f } := { h with sr := hf }

/-- Clearing flags leaves SR's clear. -/
theorem sr_of_clear {f : BitVec 7} (hf : f.getLsbD 2 = false) (i : Nat) : (setBit 7 f i false).getLsbD 2 = false := by
  have hclear : (setBit 7 f i false).getLsbD 2 = (f.getLsbD 2 && 2 != i) := getLsbD_clearFlag f i 2
  rw [hclear, hf, Bool.false_and]

theorem Via.Driven.clearOnAccess (h : v.Driven id) (x : PortSel) : (v.clearOnAccess x).Driven id := by
  refine h.setIfr ?_
  split
  · exact sr_of_clear h.sr _
  · exact sr_of_clear (sr_of_clear h.sr _) _

theorem Via.Driven.t1IrqClear (h : v.Driven id) : v.t1IrqClear.Driven id := by
  unfold Via.t1IrqClear
  split
  · exact h
  · exact h.setIfr (sr_of_clear h.sr 6)

/-- The handshake drives C2 in the output modes 4 and 5 only. -/
theorem Via.Driven.c2Handshake (h : v.Driven id) (cfg : Config) (x : PortSel) : (v.c2Handshake cfg x).Driven id := by
  have hinput (hx : v.drivesC2 x = false) :
      (if v.c2Mode x = 4 ∨ v.c2Mode x = 5 then false else (v.port x).c2) = (v.port x).extC2 := by
    obtain ⟨h4, h5, -, -⟩ := Via.c2Mode_of_input hx
    rw [if_neg (not_or.mpr ⟨h4, h5⟩), h.input hx]
  rw [Via.c2Handshake_eq]
  cases x with
  | a => exact { h with inputA := hinput }
  | b => exact { h with inputB := hinput }

theorem Via.Driven.accessed (h : v.Driven id) (cfg : Config) (x : PortSel) :
    ((v.clearOnAccess x).c2Handshake cfg x).Driven id := (h.clearOnAccess x).c2Handshake cfg x

theorem Via.Driven.regRead (h : v.Driven id) (cfg : Config) (r : BitVec 4) : (v.regRead cfg r).2.Driven id := by
  unfold Via.regRead
  split
  case h_1 => exact h.clearOnAccess .b
  case h_2 => exact h.accessed cfg .a
  case h_5 => exact h.t1IrqClear
  case h_9 => exact h.setIfr (sr_of_clear h.sr 5)
  case h_16 =>
    unfold Via.readOraF
    dsimp only
    split
    · exact h.accessed cfg .a
    · exact h
  all_goals exact h

theorem Via.Driven.regWrite (h : v.Driven id) (cfg : Config) (r : BitVec 4) (d : Byte) :
    (v.regWrite cfg r d).Driven id := by
  have hora : (({ v with a := { v.a with or := d } } : Via).refreshA).Driven id := { h with pinsA := rfl }
  unfold Via.regWrite
  split
  case h_1 =>
    have horb : (({ v with b := { v.b with or := d } } : Via).refreshB).Driven id := { h with pinsB := rfl }
    exact horb.accessed cfg .b
  case h_2 => exact hora.accessed cfg .a
  case h_3 => exact { h with pinsB := rfl }
  case h_4 => exact { h with pinsA := rfl }
  case h_6 => exact Via.Driven.t1IrqClear { h with pinsB := rfl }
  case h_8 => exact Via.Driven.t1IrqClear { h with }
  case h_10 => exact { h with sr := sr_of_clear h.sr 5 }
  case h_12 => exact { h with pinsB := rfl }
  case h_13 => exact { h with inputA := Port.followC2_c2 _, inputB := Port.followC2_c2 _ }
  case h_14 =>
    have hcleared : (v.writeIfr d).ifr.getLsbD 2 = (v.ifr.getLsbD 2 && !bit d 2) := v.writeIfr_ifr d 2
    exact { h with sr := by rw [hcleared, h.sr, Bool.false_and] }
  case h_16 =>
    unfold Via.writeOraF
    dsimp only
    split
    · exact hora.accessed cfg .a
    · exact hora
  all_goals exact { h with }

/-! ### The edges (R450 to R459) -/

theorem Via.Driven.leadT1 (h : v.Driven id) : v.leadT1.Driven id := by
  have hsr : v.leadT1.ifr.getLsbD 2 = false := v.leadT1_flags.sr.trans h.sr
  revert hsr
  unfold Via.leadT1
  split
  · exact fun hsr => { h with pinsB := rfl, sr := hsr }
  · exact fun _ => h

/-- The leading edge moves a pin only with T1's level, and raises no SR flag. -/
theorem Via.Driven.leadingEdge (h : v.Driven id) : v.leadingEdge.Driven id := by
  have hsr : v.leadingEdge.ifr.getLsbD 2 = false := v.leadingEdge_flags.sr.trans h.sr
  have hlead : v.leadingEdge = { v.leadT1 with
      ifr := v.leadingEdge.ifr, irqMask := v.leadingEdge.irqMask, t2Pending := v.leadingEdge.t2Pending
      t2Count := v.leadingEdge.t2Count, oldPb6 := v.leadingEdge.oldPb6 } := by
    unfold Via.leadingEdge
    rw [Via.leadT2_eq]
    rfl
  rw [hlead]
  exact { h.leadT1 with sr := hsr }

/-- The control lines' rules move C2 in the output modes 4 to 7 only. -/
theorem Via.portTrailed_c2_of_input {x : PortSel} (hx : v.drivesC2 x = false) :
    (v.portTrailed x).c2 = (v.port x).c2 := by
  obtain ⟨h4, h5, h6, h7⟩ := Via.c2Mode_of_input hx
  rw [Via.portTrailed, Port.trailC2_eq]
  dsimp only
  rw [if_neg fun hpulse => h5 hpulse.1, if_neg h6, if_neg h7]
  exact if_neg fun hedge => h4 (eq_of_beq (Bool.and_eq_true_iff.mp hedge).2)

/-- The trailing edge brings a VIA to rest. -/
theorem Via.Driven.trailingEdge (h : v.Driven id) : v.trailingEdge.AtRest id := by
  have hsame := v.trailingEdge_sameProgram
  have ha : v.trailingEdge.a = _ := v.trailingEdge_port .a
  have hb : v.trailingEdge.b = _ := v.trailingEdge_port .b
  refine ⟨hsame.id.trans h.id, ?_⟩
  exact
    { pinsA := by rw [ha]; exact h.pinsA
      pinsB := by rw [hb, hsame.acr, Via.trailingEdge_t1Pb7]; exact h.pinsB
      inputA2 := by
        rw [ha, hsame.pcr]
        exact fun hx => (Via.portTrailed_c2_of_input (x := .a) hx).trans (h.inputA hx)
      inputB2 := by
        rw [hb, hsame.pcr]
        exact fun hx => (Via.portTrailed_c2_of_input (x := .b) hx).trans (h.inputB hx)
      shadowA1 := by rw [ha]
      shadowA2 := by rw [ha]
      shadowB1 := by rw [hb]
      shadowB2 := by rw [hb]
      mask := rfl
      sr := v.trailingEdge_flags.sr.trans h.sr }

/-- The pins of a port without outputs are the environment's. -/
theorem Port.drive_of_inputs {q : Port} (h : q.ddr = 0) : q.drive = q.ext := by
  simp only [Port.drive, h, BitVec.ofNat_eq_ofNat, BitVec.and_zero, BitVec.zero_or, BitVec.not_zero, BitVec.and_allOnes]

/-- A reset under the environment's levels leaves the VIA at rest, whatever it held (R40). -/
theorem Via.resetWith_atRest (v : Via) (l : ViaLines) : (v.resetWith l).AtRest v.id where
  id := rfl
  settled :=
    { pinsA := (Port.drive_of_inputs (q := (v.resetWith l).a) rfl).symm
      pinsB := by
        have hacr : ¬ bit (v.resetWith l).acr 7 = true := (by decide : ¬ bit 0 7 = true)
        rw [if_neg hacr]
        exact (Port.drive_of_inputs (q := (v.resetWith l).b) rfl).symm
      inputA2 := fun _ => rfl
      inputB2 := fun _ => rfl
      shadowA1 := rfl
      shadowA2 := rfl
      shadowB1 := rfl
      shadowB2 := rfl
      mask := by simp [Via.resetWith]
      sr := BitVec.getLsbD_zero }

end

end Sys2Proof.Machine
end

section
/-! PROOFS. The controller between two accesses (R483; used by O31): every action of a command in progress leads to the next
one, to a wait that leads to one, or to the command's end. -/

namespace Sys2Proof.Machine

/-! ### A command in progress (R483, R487) -/

/-- What every state of a command in progress shares: busy, with the motor on and the position inside the revolution. -/
structure Fdc.Underway (cfg : Config) (f : Fdc) : Prop where
  busy : f.busy = true
  motor : f.motor = true
  index : f.indexUs < cfg.fdcIndexPeriodUs

/-- Where the spin-up leads: to an action other than itself (R495, R496). -/
def Fdc.SpinUpLeads (f : Fdc) : Prop := f.afterSpinup.acts = true ∧ f.afterSpinup ≠ .spinUp

section
variable {cfg : Config} {f : Fdc} {n i : Nat} {b : Bool} {next : FdcState}

theorem Fdc.Consistent.underway (h : f.Consistent cfg) (hidle : f.state ≠ .idle) : f.Underway cfg where
  busy := by rw [h.busy, bne_iff_ne]; exact hidle
  motor := h.motor hidle
  index := h.index

theorem Fdc.Underway.stopped (h : f.Underway cfg) (hoff : f.motor = false) : f.indexUs = 0 :=
  absurd (hoff.symm.trans h.motor) (by decide)

theorem FdcState.ne_of_acts {q : FdcState} (h : q.acts = true) : q ≠ .idle ∧ q ≠ .wait ∧ q ≠ .forceInterrupt := by
  refine ⟨?_, ?_, ?_⟩ <;> rintro rfl <;> cases h

/-- A command stands before one of its actions. -/
theorem Fdc.Underway.acting (h : f.Underway cfg) (hacts : f.state.acts = true)
    (hspin : f.state = .spinUp → f.SpinUpLeads) : f.Consistent cfg := by
  obtain ⟨hidle, hwait, hknown⟩ := FdcState.ne_of_acts hacts
  exact
    { busy := h.busy.trans (bne_iff_ne.mpr hidle).symm
      motor := fun _ => h.motor
      known := hknown
      wait := fun heq => absurd heq hwait
      spinUp := fun hor => hspin (hor.resolve_right fun hw => hwait hw.1)
      index := h.index
      stopped := h.stopped }

/-- A command waits for one of its actions. -/
theorem Fdc.Underway.waiting (h : f.Underway cfg) (hn : 0 < n) (hacts : next.acts = true)
    (hspin : next = .spinUp → f.SpinUpLeads) : (f.waitFor n next).Consistent cfg where
  busy := h.busy
  motor := fun _ => h.motor
  known := nofun
  wait := fun _ => ⟨hn, hacts⟩
  spinUp := fun hor => hspin (hor.resolve_left nofun).2
  index := h.index
  stopped := h.stopped

/-- Every status bit but busy is free (R52). -/
theorem Fdc.Underway.setStatus (h : f.Underway cfg) (hi : i ≠ 0) : (f.setStatus i b).Underway cfg :=
  { h with busy := ((bit_setBit f.status i b 0).trans (if_neg hi.symm)).trans h.busy }

theorem Fdc.Underway.noteLost (h : f.Underway cfg) : f.noteLost.Underway cfg := by
  unfold Fdc.noteLost
  split
  · exact h.setStatus (by decide)
  · exact h

/-- Between commands the controller is idle and not busy, its motor still on or at rest with the disc (R482, R485). -/
theorem Fdc.consistent_of_idle (hstate : f.state = .idle) (hbusy : f.busy = false)
    (hindex : f.indexUs < cfg.fdcIndexPeriodUs) (hstopped : f.motor = false → f.indexUs = 0) : f.Consistent cfg where
  busy := by rw [hbusy, hstate]; rfl
  motor := fun hne => absurd hstate hne
  known := by rw [hstate]; nofun
  wait := by rw [hstate]; nofun
  spinUp := by rw [hstate]; nofun
  index := hindex
  stopped := hstopped

/-! ### The actions (R496 to R520) -/

theorem Fdc.Underway.finish (h : f.Underway cfg) : f.runFinish.Consistent cfg :=
  Fdc.consistent_of_idle rfl ((bit_clearBit f.status 0 0).trans (Bool.and_false _)) h.index h.stopped

theorem Fdc.findState_acts (f : Fdc) : f.findState.acts = true ∧ f.findState ≠ .spinUp := by
  unfold Fdc.findState
  split <;> decide

/-- A search that finds nothing waits for the index pulses (R512, R520). -/
theorem Fdc.Underway.waitRnf (h : f.Underway cfg) (hs : Sensible cfg) : (f.waitRnf cfg).Consistent cfg :=
  h.waiting (Nat.mul_pos hs.rnf hs.period) rfl nofun

theorem Fdc.Underway.restoreCheck (h : f.Underway cfg) : (f.runRestoreCheck cfg).Consistent cfg := by
  unfold Fdc.runRestoreCheck
  split
  · exact Fdc.Underway.acting { h with } rfl nofun
  · split
    · split
      · exact Fdc.Underway.acting { h.setStatus (i := 4) (b := true) (by decide) with } rfl nofun
      · exact Fdc.Underway.acting { h.setStatus (i := 4) (b := Config.restoreRnf f.draws) (by decide) with } rfl nofun
    · exact Fdc.Underway.acting { h with } rfl nofun

theorem Fdc.Underway.seekCheck (h : f.Underway cfg) : f.runSeekCheck.Consistent cfg := by
  unfold Fdc.runSeekCheck
  split <;> exact Fdc.Underway.acting { h with } rfl nofun

theorem Fdc.Underway.seekStep (h : f.Underway cfg) : (f.runSeekStep cfg).Consistent cfg := by
  unfold Fdc.runSeekStep
  split
  · exact Fdc.Underway.waiting { h with } (f.stepDelay_pos cfg) rfl nofun
  · split
    · exact Fdc.Underway.acting { h with } rfl nofun
    · exact Fdc.Underway.waiting { h with } (f.stepDelay_pos cfg) rfl nofun

theorem Fdc.Underway.stepOnce (h : f.Underway cfg) : (f.runStepOnce cfg).Consistent cfg := by
  unfold Fdc.runStepOnce
  split
  · exact Fdc.Underway.acting { h with } rfl nofun
  · refine Fdc.Underway.waiting ?_ (f.stepDelay_pos cfg) rfl nofun
    split <;> exact { h with }

theorem Fdc.Underway.typeIVerify (h : f.Underway cfg) (hs : Sensible cfg) : (f.runTypeIVerify cfg).Consistent cfg := by
  unfold Fdc.runTypeIVerify
  split
  · exact h.waiting hs.settle rfl nofun
  · exact Fdc.Underway.acting { h with } rfl nofun

theorem Fdc.Underway.typeIISettle (h : f.Underway cfg) (hs : Sensible cfg) :
    (f.runTypeIISettle cfg).Consistent cfg := by
  obtain ⟨hacts, hspin⟩ := f.findState_acts
  unfold Fdc.runTypeIISettle
  split
  · exact h.waiting hs.settle hacts fun heq => absurd heq hspin
  · exact Fdc.Underway.acting { h with } hacts fun heq => absurd heq hspin

theorem Fdc.Underway.typeIIFind (h : f.Underway cfg) (hs : Sensible cfg) : (f.runTypeIIFind cfg).Consistent cfg := by
  unfold Fdc.runTypeIIFind
  split
  · exact h.waitRnf hs
  · next q _ =>
    have hfound : (f.sectorDetails q).Underway cfg := { h with }
    dsimp only
    split
    · exact hfound.waitRnf hs
    · split
      · exact Fdc.Underway.waiting { hfound with } hs.byte rfl nofun
      · refine Fdc.Underway.waiting ?_ hs.byte rfl nofun
        exact Fdc.Underway.setStatus { hfound with } (by decide)

theorem Fdc.Underway.readByte (h : f.Underway cfg) (hs : Sensible cfg) : (f.runReadByte cfg).Consistent cfg := by
  unfold Fdc.runReadByte
  dsimp only
  split <;> exact Fdc.Underway.waiting { h.noteLost with } hs.byte rfl nofun

theorem Fdc.Underway.writeByte (h : f.Underway cfg) (hs : Sensible cfg) : (f.runWriteByte cfg).Consistent cfg := by
  unfold Fdc.runWriteByte
  dsimp only
  split <;> exact Fdc.Underway.waiting { h.noteLost with } hs.byte rfl nofun

theorem Fdc.Underway.readNextSector (h : f.Underway cfg) (hs : Sensible cfg) :
    (f.runReadNextSector cfg).Consistent cfg := by
  unfold Fdc.runReadNextSector
  dsimp only
  split
  · exact Fdc.Underway.waiting { h.noteLost with } hs.byte rfl nofun
  · exact Fdc.Underway.acting { h.noteLost with } rfl nofun

theorem Fdc.Underway.writeNextSector (h : f.Underway cfg) (hs : Sensible cfg) :
    (f.runWriteNextSector cfg).Consistent cfg := by
  unfold Fdc.runWriteNextSector
  split
  · exact Fdc.Underway.waiting { h with } hs.byte rfl nofun
  · exact Fdc.Underway.acting { h with } rfl nofun

theorem Fdc.Underway.rnfWait (h : f.Underway cfg) : f.runRnfWait.Consistent cfg := by
  have hnotFound : ((f.setStatus 4 true).setStatus 3 true).Underway cfg := (h.setStatus (by decide)).setStatus (by decide)
  exact Fdc.Underway.acting { hnotFound with } rfl nofun

theorem Fdc.Underway.readAddressFind (h : f.Underway cfg) (hs : Sensible cfg) :
    (f.runReadAddressFind cfg).Consistent cfg := by
  unfold Fdc.runReadAddressFind
  split
  · exact h.waitRnf hs
  · exact Fdc.Underway.waiting { h with } hs.byte rfl nofun

theorem Fdc.Underway.readAddressByte (h : f.Underway cfg) (hs : Sensible cfg) :
    (f.runReadAddressByte cfg).Consistent cfg := by
  unfold Fdc.runReadAddressByte
  dsimp only
  split <;> exact Fdc.Underway.waiting { h.noteLost with } hs.byte rfl nofun

/-- The spin-up's end goes on to the command's first action (R496). -/
theorem Fdc.Underway.spinUp (h : f.Underway cfg) (hleads : f.SpinUpLeads) : f.runSpinUp.Consistent cfg :=
  Fdc.Underway.acting { h.setStatus (i := 5) (b := true) (by decide) with } hleads.1 fun heq => absurd heq hleads.2

/-! ### Updates (R481, R482) -/

/-- An idle controller has no action; every other state but those that only pass is a command's. -/
theorem Fdc.Consistent.runState (h : f.Consistent cfg) (hs : Sensible cfg) : (f.runState cfg).Consistent cfg := by
  have hu : f.state ≠ .idle → f.Underway cfg := h.underway
  have hspin := h.spinUp
  have hknown := h.known
  unfold Fdc.runState
  generalize f.state = q at hu hspin hknown
  cases q with
  | idle | wait => exact h
  | spinUp => exact (hu nofun).spinUp (hspin (.inl rfl))
  | restoreCheck => exact (hu nofun).restoreCheck
  | restoreStep => exact Fdc.Underway.waiting { hu nofun with } (f.stepDelay_pos cfg) rfl nofun
  | seekCheck => exact (hu nofun).seekCheck
  | seekStep => exact (hu nofun).seekStep
  | seekUpdate | stepUpdate => exact Fdc.Underway.acting { hu nofun with } rfl nofun
  | stepOnce => exact (hu nofun).stepOnce
  | typeIVerify => exact (hu nofun).typeIVerify hs
  | typeIISettle => exact (hu nofun).typeIISettle hs
  | typeIIFind => exact (hu nofun).typeIIFind hs
  | readByte => exact (hu nofun).readByte hs
  | readNextSector => exact (hu nofun).readNextSector hs
  | writeFirstDrq => exact Fdc.Underway.waiting { hu nofun with } hs.byte rfl nofun
  | writeByte => exact (hu nofun).writeByte hs
  | writeNextSector => exact (hu nofun).writeNextSector hs
  | rnfWait => exact (hu nofun).rnfWait
  | readAddressFind => exact (hu nofun).readAddressFind hs
  | readAddressByte => exact (hu nofun).readAddressByte hs
  | forceInterrupt => exact absurd rfl hknown
  | finish => exact (hu nofun).finish

theorem Fdc.Consistent.runStates (h : f.Consistent cfg) (hs : Sensible cfg) (fuel : Nat) :
    (Fdc.runStates cfg fuel f).Consistent cfg := by
  induction fuel generalizing f with
  | zero => exact h
  | succ fuel ih =>
    unfold Fdc.runStates
    split
    · exact h
    · exact ih (h.runState hs)

/-- The position stays inside the revolution, and the motor stops only between commands (R482). -/
theorem Fdc.Consistent.indexTick (h : f.Consistent cfg) (hs : Sensible cfg) : (f.indexTick cfg).Consistent cfg := by
  have hwrapped : (f.indexUs + cfg.fdcTickUs) % cfg.fdcIndexPeriodUs < cfg.fdcIndexPeriodUs := Nat.mod_lt _ hs.period
  unfold Fdc.indexTick
  split
  · exact h
  next hmotor =>
  have hon {x : Nat} (hoff : f.motor = false) : x = 0 := absurd (by rw [hoff]; rfl) hmotor
  split
  · next hwraps =>
    have hinside : f.indexUs + cfg.fdcTickUs < cfg.fdcIndexPeriodUs := by
      simpa [Fdc.wraps, h.index] using hwraps
    exact { h with index := hinside, stopped := hon }
  · dsimp only
    split
    · exact { h with index := hwrapped, stopped := hon }
    next hidle =>
    split
    · exact { h with index := hwrapped, stopped := hon }
    · have hidle : f.state = .idle := not_not.mp hidle
      have hfree : f.busy = false := by rw [h.busy, hidle]; rfl
      exact Fdc.consistent_of_idle hidle hfree hs.period fun _ => rfl

theorem Fdc.Consistent.waitTick (h : f.Consistent cfg) : (f.waitTick cfg).Consistent cfg := by
  unfold Fdc.waitTick
  split
  · exact h
  · next hwait =>
    have hwait : f.state = .wait := not_not.mp hwait
    obtain ⟨-, hacts⟩ := h.wait hwait
    have hspin : f.nextState = .spinUp → f.SpinUpLeads := fun heq => h.spinUp (.inr ⟨hwait, heq⟩)
    split
    · exact Fdc.Underway.acting { h.underway (by rw [hwait]; decide) with } hacts hspin
    · next hleft => exact { h with wait := fun _ => ⟨Nat.pos_of_ne_zero hleft, hacts⟩ }

theorem Fdc.Consistent.update (h : f.Consistent cfg) (hs : Sensible cfg) : (f.update cfg).Consistent cfg :=
  (h.indexTick hs).waitTick.runStates hs 8

theorem Fdc.Consistent.updates (h : f.Consistent cfg) (hs : Sensible cfg) (n : Nat) :
    (Fdc.updates cfg n f).Consistent cfg := by
  induction n generalizing f with
  | zero => exact h
  | succ n ih => exact ih (h.update hs)

/-! ### Accesses (R486 to R490, R495, R525) -/

/-- The gating starts the command's first action or the spin-up before it (R495). -/
theorem Fdc.gateSpinUp_consistent (hs : Sensible cfg) (hbusy : f.busy = true)
    (hindex : f.indexUs < cfg.fdcIndexPeriodUs) {first : FdcState} (hacts : first.acts = true)
    (hspin : first ≠ .spinUp) : (f.gateSpinUp cfg first).Consistent cfg := by
  by_cases hwaits : f.motor = false ∧ bit f.command 3 = false
  · rw [Fdc.gateSpinUp_waits hwaits.1 hwaits.2]
    exact Fdc.Underway.waiting (f := { f with motor := true, drive := f.drive.spinUp, afterSpinup := first })
      ⟨hbusy, rfl, hindex⟩ (Nat.mul_pos hs.spinup hs.period) rfl fun _ => ⟨hacts, hspin⟩
  · rw [Fdc.gateSpinUp_starts hwaits]
    exact Fdc.Underway.acting ⟨(bit_setBit f.status 5 true 0).trans hbusy, rfl, hindex⟩ hacts
      fun heq => absurd heq hspin

/-- What a command prepares keeps busy and the position, and leads to one of the command's own actions. -/
structure Prepares (prepare : Fdc → Fdc × FdcState) : Prop where
  busy : ∀ g, g.busy = true → (prepare g).1.busy = true
  index : ∀ g, (prepare g).1.indexUs = g.indexUs
  acts : ∀ g, (prepare g).2.acts = true
  spin : ∀ g, (prepare g).2 ≠ .spinUp

theorem Fdc.Consistent.startCommand (h : f.Consistent cfg) (hs : Sensible cfg) (v : Byte)
    {prepare : Fdc → Fdc × FdcState} (hp : Prepares prepare) : (f.startCommand cfg v prepare).Consistent cfg := by
  cases hbusy : f.busy with
  | true =>
    rw [Fdc.startCommand_busy hbusy]
    exact h
  | false =>
    have haccepted : (f.acceptCommand v).busy = true := f.bit_acceptCommand v 0
    have hindex : (f.acceptCommand v).indexUs = f.indexUs := by rw [Fdc.acceptCommand_eq]
    rw [Fdc.startCommand_not_busy hbusy]
    refine Fdc.gateSpinUp_consistent hs (hp.busy _ haccepted) ?_ (hp.acts _) (hp.spin _)
    rw [hp.index, hindex]
    exact h.index

/-- Force Interrupt ends a command, or leaves an idle controller idle (R525). -/
theorem Fdc.Consistent.forceInt (h : f.Consistent cfg) (v : Byte) : (f.forceInt v).Consistent cfg := by
  unfold Fdc.forceInt
  cases f.busy with
  | true =>
    exact Fdc.consistent_of_idle rfl ((bit_clearBit f.status 0 0).trans (Bool.and_false _)) h.index h.stopped
  | false =>
    exact Fdc.consistent_of_idle rfl ((bit_and_C6 f.status 0).trans (Bool.and_false _)) h.index h.stopped

/-- Write Sector may set status bit 6 before it starts (R511). -/
theorem prepares_writeSector :
    Prepares fun g => if g.drive.writeProtected then (g.setStatus 6 true, .finish) else (g, .typeIISettle) where
  busy g hbusy := by
    split
    · exact (bit_setBit g.status 6 true 0).trans hbusy
    · exact hbusy
  index g := by split <;> rfl
  acts g := by split <;> rfl
  spin g := by split <;> nofun

/-- A write of the command register that is not refused (R487, R521, R522); case `h_k` is the top nibble `k - 1`. -/
theorem Fdc.Consistent.writeCommand {v : Byte} {g : Fdc} (h : f.Consistent cfg) (hs : Sensible cfg)
    (hg : f.writeCommand cfg v = .ok g) : g.Consistent cfg := by
  unfold Fdc.writeCommand at hg
  split at hg
  case h_11 | h_12 =>
    cases hg
    exact h.startCommand hs v prepares_writeSector
  case h_14 =>
    cases hg
    exact h.forceInt v
  case h_15 =>
    unfold Fdc.readTrackCmd at hg
    split at hg <;> cases hg
    exact h
  case h_16 =>
    unfold Fdc.writeTrackCmd at hg
    split at hg <;> cases hg
    exact h
  all_goals
    cases hg
    exact h.startCommand hs v ⟨fun _ hbusy => hbusy, fun _ => rfl, fun _ => rfl, fun _ => nofun⟩

theorem Fdc.Consistent.regWrite {r : BitVec 2} {v : Byte} {g : Fdc} (h : f.Consistent cfg) (hs : Sensible cfg)
    (hg : f.regWrite cfg r v = .ok g) : g.Consistent cfg := by
  unfold Fdc.regWrite at hg
  split at hg
  case h_1 => exact h.writeCommand hs hg
  all_goals
    cases hg
    exact { h with }

theorem Fdc.Consistent.regRead (h : f.Consistent cfg) (r : BitVec 2) : (f.regRead cfg r).2.Consistent cfg := by
  unfold Fdc.regRead
  split
  case h_1 | h_4 => exact { h with }
  all_goals exact h

/-- The reset leaves an idle controller with the motor off (R56). -/
theorem Fdc.reset_consistent (hs : Sensible cfg) (f : Fdc) : f.reset.Consistent cfg :=
  Fdc.consistent_of_idle rfl (by decide : bit 0 0 = false) hs.period fun _ => rfl

end

end Sys2Proof.Machine
end

section
/-! PROOFS. What every system cycle keeps (R114; used by O31): the devices' invariant in the middle of a cycle and at its
end; and the reset that establishes it (O21, O32). -/

namespace Sys2Proof.Machine

/-! ### The devices in the middle of a cycle and at its end -/

/-- What holds before and after the CPU's access of a cycle: the VIAs stand between their edges. -/
structure MidCycle (s : State) : Prop where
  sensible : Sensible s.cfg
  memory : Memory.wf s.mem = true
  via : ∀ id, (s.via id).Driven id
  fdc : s.fdc.Consistent s.cfg
  tube : s.tube.Consistent s.cfg

/-- What holds between two cycles but for the interrupt lines, which a reset of the devices leaves out of date (R650). -/
structure DevicesSound (s : State) : Prop where
  sensible : Sensible s.cfg
  memory : Memory.wf s.mem = true
  via : ∀ id, (s.via id).AtRest id
  fdc : s.fdc.Consistent s.cfg
  tube : s.tube.Consistent s.cfg

/-- What holds between two cycles: the invariant of instruction boundaries but for the boundary itself. -/
structure CycleInv (s : State) : Prop where
  devices : DevicesSound s
  irq : s.cpu.irqLine = s.irqSources
  nmi : s.cpu.nmiLine = s.nmiSources

theorem inv_iff (s : State) : Inv s ↔ CycleInv s ∧ AtBoundary s := by
  constructor
  · intro h
    refine ⟨⟨⟨h.sensible, h.memory, fun id => ?_, h.fdc, h.tube⟩, h.irq, h.nmi⟩, h.boundary⟩
    cases id with
    | system => exact ⟨h.sysId, h.sysVia⟩
    | user => exact ⟨h.usrId, h.usrVia⟩
  · rintro ⟨⟨h, hirq, hnmi⟩, hboundary⟩
    exact ⟨h.sensible, h.memory, hboundary, (h.via .system).settled, (h.via .user).settled, (h.via .system).id,
      (h.via .user).id, h.fdc, h.tube, hirq, hnmi⟩

/-- The devices' invariant looks at the world and memory alone. -/
theorem DevicesSound.congr {s t : State} (h : DevicesSound s) (hworld : t.world = s.world) (hmem : t.mem = s.mem) :
    DevicesSound t := by
  have hcfg : t.cfg = s.cfg := congrArg World.cfg hworld
  have hfdc : t.fdc = s.fdc := congrArg World.fdc hworld
  have htube : t.tube = s.tube := congrArg World.tube hworld
  have hvia (id : ViaId) : t.via id = s.via id := by
    cases id with
    | system => exact congrArg World.sysVia hworld
    | user => exact congrArg World.usrVia hworld
  constructor
  · exact hcfg ▸ h.sensible
  · exact hmem ▸ h.memory
  · exact fun id => hvia id ▸ h.via id
  · rw [hcfg, hfdc]; exact h.fdc
  · rw [hcfg, htube]; exact h.tube

theorem State.irqSources_congr {s t : State} (h : t.world = s.world) : t.irqSources = s.irqSources := by
  have hsources (u : State) : u.irqSources = (u.world.sysVia.irq || u.world.usrVia.irq || u.world.tube.hirq ||
    (u.world.cfg.fdcIrqWiring == .irq && u.world.fdc.request) || u.world.env.otherIrq) := rfl
  rw [hsources, hsources, h]

theorem State.nmiSources_congr {s t : State} (h : t.world = s.world) : t.nmiSources = s.nmiSources := by
  have hsources (u : State) : u.nmiSources =
    ((u.world.cfg.fdcIrqWiring == .nmi && u.world.fdc.request) || u.world.env.otherNmi) := rfl
  rw [hsources, hsources, h]

/-- So do the lines: registers can be written between two cycles. -/
theorem CycleInv.congr {s t : State} (h : CycleInv s) (hworld : t.world = s.world) (hmem : t.mem = s.mem) :
    CycleInv t := by
  refine ⟨h.devices.congr hworld hmem, ?_, ?_⟩
  · exact (congrArg World.irqLine hworld).trans (h.irq.trans (State.irqSources_congr hworld).symm)
  · exact (congrArg World.nmiLine hworld).trans (h.nmi.trans (State.nmiSources_congr hworld).symm)

/-! ### The first half of a cycle (R114) -/

theorem State.parasiteBefore_fdc (s : State) : s.parasiteBefore.fdc = s.fdc := by
  unfold State.parasiteBefore
  cases s.script <;> rfl

/-- The environment's input and the levels reach the controller as a new drive and a new density only. -/
theorem State.beginCycle_fdc (s : State) (horder : s.cfg.agentOrder = {}) :
    ∃ drive density, s.beginCycle.fdc = { s.fdc with drive := drive, density := density } := by
  have hinputs : s.beginCycle.fdc = s.takeInput.applyLevels.fdc := by
    rw [State.beginCycle_ordered s horder]
    exact State.parasiteBefore_fdc _
  rw [hinputs]
  unfold State.takeInput
  cases s.script with
  | nil => exact ⟨_, _, rfl⟩
  | cons e rest =>
    dsimp only
    cases e.drive <;> exact ⟨_, _, rfl⟩

theorem State.takeInput_via (s : State) (id : ViaId) : s.takeInput.via id = s.via id := by
  unfold State.takeInput
  cases s.script <;> cases id <;> rfl

theorem DevicesSound.beginCycle {s : State} (h : DevicesSound s) : MidCycle s.beginCycle where
  sensible := by rw [State.beginCycle_cfg]; exact h.sensible
  memory := by rw [State.beginCycle_mem]; exact h.memory
  via id := by
    rw [State.beginCycle_via h.sensible.order, State.takeInput_via]
    exact ((h.via id).applyLines _).leadingEdge
  fdc := by
    obtain ⟨drive, density, hfdc⟩ := s.beginCycle_fdc h.sensible.order
    rw [State.beginCycle_cfg, hfdc]
    exact { h.fdc with }
  tube := by
    rw [State.beginCycle_cfg, s.beginCycle_tube.1]
    split
    · exact h.tube
    · exact h.tube.parasiteRun h.sensible.depth _

/-! ### The access (R101, R102) -/

theorem MidCycle.setVia {s : State} {id : ViaId} {v : Via} (h : MidCycle s) (hv : v.Driven id) :
    MidCycle (s.setVia id v) := by
  cases id with
  | system => exact { h with via := fun j => by cases j with | system => exact hv | user => exact h.via .user }
  | user => exact { h with via := fun j => by cases j with | system => exact h.via .system | user => exact hv }

theorem MidCycle.latch {s : State} (h : MidCycle s) (a : Word) (v : Byte) (r : Bool) : MidCycle (s.latch a v r) :=
  { h with via := fun id => by rw [State.latch_via]; exact h.via id }

theorem MidCycle.busRead {s : State} (h : MidCycle s) (a : Word) : MidCycle (busRead a s).2 := by
  refine MidCycle.latch ?_ _ _ _
  unfold busValue
  cases target s.cfg a with
  | sysVia => exact h.setVia ((h.via .system).regRead s.cfg _)
  | usrVia => exact h.setVia ((h.via .user).regRead s.cfg _)
  | fdc => exact { h with fdc := h.fdc.regRead _ }
  | tube => exact { h with tube := h.tube.hostRead _ }
  | unmapped => exact { h with }
  | rom => exact h
  | ram => exact h

theorem MidCycle.busStore {s t : State} {a : Word} {v : Byte} (h : MidCycle s) (ht : busStore a v s = .ok t) :
    MidCycle t := by
  unfold Machine.busStore at ht
  split at ht
  case h_3 =>
    split at ht <;> cases ht
    next hf => exact { h with fdc := h.fdc.regWrite h.sensible hf }
  all_goals cases ht
  case h_1 => exact h.setVia ((h.via .system).regWrite s.cfg _ v)
  case h_2 => exact h.setVia ((h.via .user).regWrite s.cfg _ v)
  case h_4 => exact { h with tube := h.tube.hostWrite h.sensible.depth _ v }
  case h_7 => exact { h with memory := Memory.write_wf s.mem a.toNat v h.memory a.isLt }
  all_goals exact h

theorem MidCycle.busWrite {s t : State} {a : Word} {v : Byte} (h : MidCycle s) (ht : busWrite a v s = .ok t) :
    MidCycle t := by
  unfold Machine.busWrite at ht
  split at ht
  · next hstore =>
    cases ht
    exact (h.busStore hstore).latch a v false
  · cases ht

/-! ### The second half of a cycle (R114) -/

/-- The controller takes its updates of the cycle and nothing else. -/
theorem State.endCycle_fdc (s : State) (horder : s.cfg.agentOrder = {}) :
    ∃ n, s.endCycle.fdc = Fdc.updates s.cfg n s.fdc := by
  rw [State.endCycle_ordered s horder]
  unfold State.parasiteAfter
  cases s.script <;> exact ⟨_, rfl⟩

theorem MidCycle.endCycle {s : State} (h : MidCycle s) : CycleInv s.endCycle := by
  obtain ⟨hirq, hnmi, -⟩ := s.endCycle_lines
  refine ⟨⟨?_, ?_, fun id => ?_, ?_, ?_⟩, hirq, hnmi⟩
  · rw [State.endCycle_cfg]; exact h.sensible
  · rw [State.endCycle_mem]; exact h.memory
  · rw [State.endCycle_via h.sensible.order]; exact (h.via id).trailingEdge
  · obtain ⟨n, hfdc⟩ := s.endCycle_fdc h.sensible.order
    rw [State.endCycle_cfg, hfdc]
    exact h.fdc.updates h.sensible n
  · rw [State.endCycle_cfg, s.endCycle_tube.1]
    split
    · exact h.tube
    · exact h.tube.parasiteRun h.sensible.depth _

/-! ### Cycles -/

theorem DevicesSound.read {s : State} (h : DevicesSound s) (a : Word) : CycleInv (readCycle a s).2 :=
  (h.beginCycle.busRead a).endCycle

theorem DevicesSound.write {s t : State} {a : Word} {v : Byte} (h : DevicesSound s) (ht : writeCycle a v s = .next t) :
    CycleInv t := by
  obtain ⟨u, hwrite, rfl⟩ := writeCycle_next_inv ht
  exact (h.beginCycle.busWrite hwrite).endCycle

/-! ### Reset (R40, R56, R66) -/

theorem State.resetDevices_via (s : State) (id : ViaId) :
    s.resetDevices.via id = (s.via id).resetWith (s.env.lines id) := by
  cases id <;> rfl

/-- A reset brings the devices to rest. -/
theorem DevicesSound.resetDevices {s : State} (h : DevicesSound s) : DevicesSound s.resetDevices where
  sensible := h.sensible
  memory := h.memory
  via id := by
    rw [State.resetDevices_via]
    exact ⟨(h.via id).id, (Via.resetWith_atRest _ _).settled⟩
  fdc := Fdc.reset_consistent h.sensible s.fdc
  tube := Tube.initial_consistent h.sensible.depth

/-- Settles O21: each device's reset by evaluation. -/
theorem resetValues : Obligations.ResetValues := by
  intro s id v l f
  cases id <;> and_intros <;> rfl

theorem Config.default_sensible : Sensible Config.default := by
  constructor <;> decide

/-- Settles O32: the devices are as a reset under the default levels leaves them. -/
theorem resetHasInv : Obligations.ResetHasInv := by
  have hvia (id : ViaId) : (State.reset.via id).AtRest id := by
    cases id with
    | system => exact Via.resetWith_atRest { id := .system } {}
    | user => exact Via.resetWith_atRest { id := .user } {}
  refine (inv_iff _).mpr ⟨⟨⟨Config.default_sensible, Memory.reset_wf, hvia, ?_, ?_⟩, ?_, ?_⟩, rfl, rfl, rfl⟩
  · exact Fdc.reset_consistent Config.default_sensible {}
  · exact Tube.initial_consistent Config.default_sensible.depth
  · decide
  · decide

end Sys2Proof.Machine
end

section
/-! PROOFS. Every step keeps the invariant of instruction boundaries (O31): a step is made of cycles, each of which keeps the
devices' invariant and the lines, and of register writes, which both of these ignore; it ends at a boundary. -/

namespace Sys2Proof.Machine

/-! ### Outcomes that keep a property -/

/-- The next state, if the outcome is one, has the property. -/
def Keeps (P : State → Prop) (o : Host.Outcome State Fault Refusal) : Prop := ∀ t, o = .next t → P t

theorem keeps_next {P : State → Prop} {t : State} (h : P t) : Keeps P (.next t) := fun _ heq => by
  cases heq
  exact h

theorem keeps_andThen {P Q : State → Prop} {o : Host.Outcome State Fault Refusal}
    {f : State → Host.Outcome State Fault Refusal} (ho : Keeps P o) (hf : ∀ t, P t → Keeps Q (f t)) :
    Keeps Q (andThen o f) := fun t heq => by
  obtain ⟨u, hu, ht⟩ := andThen_eq_next heq
  exact hf u (ho u hu) t ht

/-! ### Cycles and register writes -/

section
variable {s : State}

theorem CycleInv.read (h : CycleInv s) (a : Word) : CycleInv (readCycle a s).2 := h.devices.read a

theorem CycleInv.discard (h : CycleInv s) (a : Word) : CycleInv (discardCycle a s) := h.devices.read a

theorem CycleInv.write (h : CycleInv s) (a : Word) (v : Byte) : Keeps CycleInv (writeCycle a v s) :=
  fun _ ht => h.devices.write ht

theorem CycleInv.setS (h : CycleInv s) (v : Byte) : CycleInv (s.setS v) := h.congr (s.setS_world v) (s.setS_mem v)

theorem CycleInv.setPc (h : CycleInv s) (w : Word) : CycleInv (s.setPc w) := h.congr (s.setPc_world w) (s.setPc_mem w)

theorem CycleInv.incPc (h : CycleInv s) : CycleInv s.incPc := h.congr s.incPc_world s.incPc_mem

theorem CycleInv.setP (h : CycleInv s) (p : Flags) : CycleInv (s.setP p) := h.congr (s.setP_world p) (s.setP_mem p)

theorem CycleInv.setIr (h : CycleInv s) (v : Byte) : CycleInv (s.setIr v) := h.congr (s.setIr_world v) (s.setIr_mem v)

theorem CycleInv.setAd (h : CycleInv s) (w : Word) (fix : Bool) : CycleInv (s.setAd w fix) :=
  h.congr (s.setAd_world w fix) (s.setAd_mem w fix)

theorem CycleInv.setPtr (h : CycleInv s) (v : Byte) : CycleInv (s.setPtr v) :=
  h.congr (s.setPtr_world v) (s.setPtr_mem v)

theorem CycleInv.setOpnd (h : CycleInv s) (v : Byte) : CycleInv (s.setOpnd v) :=
  h.congr (s.setOpnd_world v) (s.setOpnd_mem v)

theorem CycleInv.setSeq (h : CycleInv s) (q : SeqKind) : CycleInv (s.setSeq q) :=
  h.congr (s.setSeq_world q) (s.setSeq_mem q)

theorem CycleInv.setRegs (h : CycleInv s) (r : Regs) : CycleInv (s.setRegs r) := h.congr (s.setRegs_world r) rfl

theorem CycleInv.finish (h : CycleInv s) : Keeps Inv (finish s) :=
  keeps_next ((inv_iff _).mpr ⟨h.congr s.boundary_world s.boundary_mem, s.boundary_atBoundary⟩)

/-! ### The stack and the sequences (R10, R606 to R608, R354) -/

theorem CycleInv.push (h : CycleInv s) (v : Byte) : Keeps CycleInv (push v s) :=
  keeps_andThen (h.write _ v) fun _ ht => keeps_next (ht.setS _)

theorem CycleInv.suppressedPush (h : CycleInv s) : CycleInv (suppressedPush s) := (h.discard _).setS _

theorem CycleInv.pullStart (h : CycleInv s) : CycleInv (pullStart s) := (h.discard _).setS _

theorem CycleInv.pullRead (h : CycleInv s) : CycleInv (pullRead s).2 := h.read _

theorem CycleInv.pullNext (h : CycleInv s) : CycleInv (pullNext s).2 := h.pullRead.setS _

theorem CycleInv.enterVector (h : CycleInv s) (vec : Word) : Keeps Inv (enterVector vec s) := by
  exact ((((h.read vec).setOpnd _).setP _).read (vec + 1) |>.setPc _).finish

theorem CycleInv.enterInterrupt (h : CycleInv s) (brk : Bool) (vec : Word) : Keeps Inv (enterInterrupt brk vec s) :=
  keeps_andThen (h.push _) fun _ ht => keeps_andThen (ht.push _) fun _ hu => keeps_andThen (hu.push _) fun _ hw =>
    hw.enterVector vec

theorem DevicesSound.discardPcTwice (h : DevicesSound s) : CycleInv (discardPcTwice s) := (h.read _).discard _

theorem CycleInv.returnFromInterrupt (h : CycleInv s) : Keeps Inv (returnFromInterrupt s) := by
  exact ((h.pullStart.pullNext.setP _).pullNext.pullRead.setPc _).finish

/-! ### Operands and class tails (R200 to R216) -/

theorem CycleInv.impliedCycle (h : CycleInv s) : CycleInv (impliedCycle s) := h.discard _

theorem CycleInv.indexedAddr (h : CycleInv s) (always : Bool) (base : Word) (index : Byte) :
    CycleInv (indexedAddr always base index s).2 := by
  unfold Machine.indexedAddr
  split
  · exact ((h.setAd _ _).discard _).setAd _ _
  · exact h.setAd _ _

theorem CycleInv.zpIndexedAddr (h : CycleInv s) (b index : Byte) : CycleInv (zpIndexedAddr b index s).2 :=
  (h.discard _).setAd _ _

theorem CycleInv.zpPointer (h : CycleInv s) (p : Byte) : CycleInv (zpPointer p s).2 := ((h.setPtr _).read _).read _

theorem CycleInv.effAddr (h : CycleInv s) (always : Bool) (m : Operand) : CycleInv (effAddr always m s).2 := by
  cases m with
  | zp b => exact h.setAd _ _
  | zpx b => exact h.zpIndexedAddr b _
  | zpy b => exact h.zpIndexedAddr b _
  | abs w => exact h.setAd _ _
  | absx w => exact h.indexedAddr always w _
  | absy w => exact h.indexedAddr always w _
  | indx b => exact (((h.setPtr _).discard _).zpPointer _).setAd _ _
  | indy b => exact (h.zpPointer b).indexedAddr always _ _

theorem CycleInv.readOperand (h : CycleInv s) (m : Operand) : CycleInv (readOperand m s).2 :=
  ((h.effAddr false m).read _).setOpnd _

theorem CycleInv.storeOp (h : CycleInv s) (m : Operand) (v : Byte) : Keeps Inv (storeOp m v s) :=
  keeps_andThen ((h.effAddr true m).write _ v) fun _ ht => ht.finish

theorem CycleInv.rmwOp (h : CycleInv s) (m : Operand) (op : Byte → Flags → ByteResult) : Keeps Inv (rmwOp m op s) :=
  keeps_andThen ((((h.effAddr true m).read _).setOpnd _).write _ _) fun _ ht =>
    keeps_andThen ((ht.setP _).write _ _) fun _ hu => hu.finish

theorem CycleInv.branchOp (h : CycleInv s) (cond : Bool) (off : Byte) : Keeps Inv (branchOp cond off s) := by
  unfold Machine.branchOp
  split
  · exact h.finish
  · dsimp only
    split
    · exact (((h.discard _).setPc _).setPc _).finish
    · exact ((((h.discard _).setPc _).discard _).setPc _).finish

/-! ### Instructions -/

theorem CycleInv.exec_stackOrJump (h : CycleInv s) {i : Instr} (hi : stackOrJump i) : Keeps Inv (exec i s) := by
  cases i
  case pha => exact keeps_andThen (h.impliedCycle.push _) fun _ ht => ht.finish
  case php => exact keeps_andThen (h.impliedCycle.push _) fun _ ht => ht.finish
  case pla =>
    rw [exec_pla]
    exact (h.impliedCycle.pullStart.pullRead.setRegs _).finish
  case plp => exact (h.impliedCycle.pullStart.pullRead.setP _).finish
  case jmpAbs w => exact (h.setPc _).finish
  case jmpInd w => exact (((h.read _).read _).setPc _).finish
  case jsrAbs w =>
    exact keeps_andThen ((h.discard _).push _) fun _ ht => keeps_andThen (ht.push _) fun _ hu =>
      ((hu.read _).setPc _).finish
  case rts =>
    exact ((h.impliedCycle.pullStart.pullNext.pullRead.setPc _).discard _).incPc.finish
  case rti => exact h.impliedCycle.returnFromInterrupt
  case brk => exact h.impliedCycle.incPc.enterInterrupt true _
  all_goals cases hi

/-- Every CPU instruction, class by class; a reserved opcode answers no next state. -/
theorem CycleInv.exec (h : CycleInv s) {i : Instr} {used : List Byte} (hi : encode i = .cpu used) :
    Keeps Inv (exec i s) := by
  have hforms := form_of_encode_cpu hi
  simp only [Option.isSome_iff_exists, Prod.exists] at hforms
  obtain ⟨k, m, hread⟩ | ⟨k, v, himm⟩ | ⟨k, m, hstore⟩ | ⟨k, m, hrmw⟩ | ⟨k, hacc⟩ | ⟨f, himplied⟩ | ⟨cond, off, hbranch⟩ |
    ⟨op, hreserved⟩ | hother := hforms
  · exact exec_of_readForm hread s ▸ ((h.readOperand m).setRegs _).finish
  · exact exec_of_immForm himm s ▸ ((h.setOpnd v).setRegs _).finish
  · exact exec_of_storeForm hstore s ▸ h.storeOp m _
  · exact exec_of_rmwForm hrmw s ▸ h.rmwOp m k.result
  · exact exec_of_accForm hacc s ▸ (h.impliedCycle.setRegs _).finish
  · exact exec_of_impliedForm himplied s ▸ (h.impliedCycle.setRegs _).finish
  · exact exec_of_branchForm hbranch s ▸ h.branchOp (cond s.cpu.p) off
  · obtain ⟨hrefused, -⟩ := reservedOpcodesRefused i op s hreserved
    rw [hrefused]
    exact fun _ heq => nomatch heq
  · exact h.exec_stackOrJump hother

/-! ### The step (R192, R194, R218) -/

theorem CycleInv.fetchOpcode (h : CycleInv s) : CycleInv (fetchOpcode s).2 :=
  ((h.setSeq .instr).read _).incPc.setIr _

theorem CycleInv.fetchOperand (h : CycleInv s) : CycleInv (fetchOperand s).2 := (h.read _).incPc.setOpnd _

theorem CycleInv.fetch (h : CycleInv s) : CycleInv (fetch s).2 := by
  have hop := h.fetchOpcode
  dsimp only [Machine.fetch]
  split
  · exact hop.fetchOperand
  · split
    · exact hop
    · exact hop.fetchOperand
    · exact hop.fetchOperand.fetchOperand

/-- The drive-handler calls recorded are no part of the invariant. -/
theorem CycleInv.clearRecords (h : CycleInv s) : CycleInv (clearRecords s) :=
  ⟨{ h.devices with fdc := { h.devices.fdc with } }, h.irq, h.nmi⟩

theorem CycleInv.resetSeq (h : CycleInv s) : Keeps Inv (resetSeq s) := by
  have hstart : DevicesSound (resetStart s) := { h.devices.resetDevices with }
  rw [resetSeq_eq]
  exact (hstart.discardPcTwice.suppressedPush.suppressedPush.suppressedPush).enterVector _

theorem CycleInv.nmiSeq (h : CycleInv s) : Keeps Inv (nmiSeq s) := by
  have hstart : DevicesSound (nmiStart s) := { h.devices with }
  rw [nmiSeq_eq]
  exact hstart.discardPcTwice.enterInterrupt false _

theorem CycleInv.irqSeq (h : CycleInv s) : Keeps Inv (irqSeq s) := by
  have hstart : DevicesSound (irqStart s) := { h.devices with }
  rw [irqSeq_eq]
  exact hstart.discardPcTwice.enterInterrupt false _

theorem CycleInv.step (h : CycleInv s) : Keeps Inv (step s) := by
  have hclear := h.clearRecords
  unfold Machine.step
  split
  · exact hclear.resetSeq
  · exact hclear.nmiSeq
  · exact hclear.irqSeq
  · obtain ⟨op, b1, b2, hfetch⟩ := fetch_eq_decodeOpcode (Machine.clearRecords s)
    exact hclear.fetch.exec (hfetch ▸ encode_decodeOpcode op b1 b2)

end

/-- Settles O31: the invariant is that of a cycle at a boundary, and whatever the boundary chooses keeps it. -/
theorem stepKeepsInv : Obligations.StepKeepsInv := fun s t h => ((inv_iff s).mp h).1.step t

end Sys2Proof.Machine
end
